-- ==== Sys2Proof/Word.lean ====
section
/-! DEFINITION. The byte type and fixed-size tables: a read, a write of one place, and a map over all places. -/

namespace Sys2Proof

/-- A byte of the management link (R197). -/
abbrev Byte := BitVec 8

/-- A stream number, 0 to 15. -/
abbrev StreamId := Fin 16
/-- An in-flight entry number, 0 to 47. -/
abbrev EntryId := Fin 48
/-- A window number, 0 to 23. -/
abbrev WindowId := Fin 24

/-- `v` with place `i` holding `x`. -/
def putAt {α : Type} {n : Nat} (v : Vector α n) (i : Fin n) (x : α) : Vector α n := v.set i.val x i.isLt

/-- `v` with place `i` changed by `f`. -/
def modAt {α : Type} {n : Nat} (v : Vector α n) (i : Fin n) (f : α → α) : Vector α n := putAt v i (f v[i])

/-- `v` with every place changed by `f`, which is told the place. -/
def mapAll {α β : Type} {n : Nat} (v : Vector α n) (f : Fin n → α → β) : Vector β n := Vector.ofFn fun i => f i v[i]

/-- Every stream number, in ascending order. -/
def allStreams : List StreamId := List.finRange 16
/-- Every in-flight entry number, in ascending order. -/
def allEntries : List EntryId := List.finRange 48
/-- Every window number, in ascending order. -/
def allWindows : List WindowId := List.finRange 24

theorem putAt_self {α : Type} {n : Nat} (v : Vector α n) (i : Fin n) (x : α) : (putAt v i x)[i] = x := by
  simp [putAt]

theorem putAt_other {α : Type} {n : Nat} (v : Vector α n) (i j : Fin n) (x : α) (h : j ≠ i) : (putAt v i x)[j] = v[j] := by
  have : i.val ≠ j.val := fun e => h (Fin.ext e.symm)
  simp [putAt, Vector.getElem_set_ne, this]

/-- The two cases of a read after a write of one place. -/
theorem putAt_get {α : Type} {n : Nat} (v : Vector α n) (i j : Fin n) (x : α) :
    (putAt v i x)[j] = if j = i then x else v[j] := by
  by_cases h : j = i
  · subst h; simp [putAt]
  · simp only [h, if_false]; exact putAt_other v i j x h

@[simp] theorem putAt_self_val {α : Type} {n : Nat} (v : Vector α n) (i : Fin n) (x : α) : (putAt v i x)[i.val] = x :=
  putAt_self v i x

@[simp] theorem putAt_putAt {α : Type} {n : Nat} (v : Vector α n) (i : Fin n) (x y : α) :
    putAt (putAt v i x) i y = putAt v i y := by
  simp [putAt]

theorem modAt_get {α : Type} {n : Nat} (v : Vector α n) (i j : Fin n) (f : α → α) :
    (modAt v i f)[j] = if j = i then f v[j] else v[j] := by
  unfold modAt
  rw [putAt_get]
  by_cases h : j = i
  · subst h; simp
  · simp [h]

theorem mapAll_get {α β : Type} {n : Nat} (v : Vector α n) (f : Fin n → α → β) (i : Fin n) :
    (mapAll v f)[i] = f i v[i] := by
  simp [mapAll]

@[simp] theorem mapAll_get_val {α β : Type} {n : Nat} (v : Vector α n) (f : Fin n → α → β) (i : Nat) (h : i < n) :
    (mapAll v f)[i] = f ⟨i, h⟩ v[i] := by
  simp [mapAll]

/-- Two tables are equal when they agree at every place. -/
theorem table_ext {α : Type} {n : Nat} (v w : Vector α n) (h : ∀ i : Fin n, v[i] = w[i]) : v = w :=
  Vector.ext fun i hi => h ⟨i, hi⟩

end Sys2Proof
end

