-- ==== Sys2Proof/Syntax.lean ====
section
/-! DEFINITION. The records that cross the ports and the commands the device takes: one constructor per row of the table of
operations and events, with the operands that the event carries. -/

namespace Sys2Proof

/-- The kind of a request (R1). -/
inductive Kind where
  | read
  | write
  deriving DecidableEq, Repr

/-- One beat of write data: 16 bytes and 16 byte enables (R1). -/
structure Beat where
  data : BitVec 128
  enables : BitVec 16
  deriving DecidableEq, Repr

/-- An initiator with its tag, which names a resident transaction (R18). -/
structure TagPair where
  initiator : Fin 64
  tag : Fin 256
  deriving DecidableEq, Repr

/-- A request record as the upstream port carries it (R1): any 40-bit address, a beat count of 0 to 31, and for a WRITE one
data element per beat. -/
structure Request where
  initiator : Fin 64
  tag : Fin 256
  kind : Kind
  address : BitVec 40
  beats : Fin 32
  data : List Beat
  deriving DecidableEq, Repr

/-- The outcomes the memory controller gives (R3). -/
inductive MemOutcome where
  | okay
  | memfault
  deriving DecidableEq, Repr

/-- A response record as the downstream port carries it (R3): a downstream tag of 0 to 63. -/
structure MemResponse where
  tag : Fin 64
  outcome : MemOutcome
  data : List (BitVec 128)
  deriving DecidableEq, Repr

/-- The mask bytes of page 04h (R207): one for each stream and one for the global causes. -/
inductive MaskByte where
  | stream (s : StreamId)
  | global
  deriving DecidableEq, Repr

/-- The commands (events) of the device, one per row of spec/opcode_table.json. A docstring names the rule that owns the row. -/
inductive Instr where
  /-- REQUEST_TAKEN (R6): the interconnect offers this request. -/
  | requestTaken (req : Request)
  /-- PLACEMENT (R66): the entry stage repeats the placement test of its WAIT_SLOT request. -/
  | placement
  /-- PASS_ISSUE (R15): the request in WAIT_ISSUE is issued. -/
  | passIssue
  /-- ISSUE (R98): one grant and its issue. -/
  | issue
  /-- RESPONSE_ARRIVAL (R101): the memory controller offers this response. -/
  | responseArrival (r : MemResponse)
  /-- RESPONSE_DELIVERED (R23): the upstream response channel accepts a response. -/
  | responseDelivered
  /-- OFFER_ACCEPTED (R21): the oldest waiting offer is accepted into a free place. -/
  | offerAccepted
  /-- STALL_TIMEOUT (R12). -/
  | stallTimeout
  /-- HOLD_TIMEOUT (R73): the hold timers of these transactions expire, in one event. -/
  | holdTimeout (who : List TagPair)
  /-- RESPONSE_TIMEOUT (R106): the response timers of these entries expire, in one event. -/
  | responseTimeout (who : List EntryId)
  /-- REFILL_TICK (R52). -/
  | refillTick
  /-- PUBLICATION (R126): the epoch timer expires. -/
  | publication
  /-- ADJUSTMENT (R140), with the level of HOT at that event. -/
  | adjustment (hot : Bool)
  /-- COMMIT_EVENT (R185): the pending COMMIT is judged at its boundary. -/
  | commitEvent
  /-- POOL_EMPTY (R82): the pool is reported empty in DRAINING. -/
  | poolEmpty
  /-- RETIREMENT_COMPLETION (R191): the RETIRING stream is reported drained. -/
  | retirementCompletion
  /-- RESET_ASSERT (R25, R177). -/
  | resetAssert
  /-- RESET_DEASSERT (R116), with the levels of MA1..MA0 (R197). -/
  | resetDeassert (straps : BitVec 2)
  /-- URST_ASSERT (R26). -/
  | urstAssert
  /-- URST_DEASSERT (R27). -/
  | urstDeassert
  /-- DRST_ASSERT (R111). -/
  | drstAssert
  /-- DRST_DEASSERT (R112). -/
  | drstDeassert
  /-- TRANSFER_START (R197): a start or repeated start and an address byte, with its direction bit. -/
  | transferStart (address : BitVec 7) (read : Bool)
  /-- WRITE_BYTE (R198): the controller sends this data byte. -/
  | writeByte (b : Byte)
  /-- READ_BYTE (R199): the controller clocks a byte out; HOT has this level, and the controller acknowledges or not. -/
  | readByte (hot : Bool) (ack : Bool)
  /-- TRANSFER_END (R197): a stop or repeated start. -/
  | transferEnd
  /-- SCL_TIMEOUT (R203): SCL has been low for this many time-base units. -/
  | sclTimeout (lowFor : Nat)
  /-- COMMIT (R183). -/
  | commit
  /-- REVERT (R188). -/
  | revert
  /-- ACK (R170); its arguments are the request argument fields (R181). -/
  | ack
  /-- RETIRE (R190); its argument is request argument field 0 (R206). -/
  | retire
  /-- RESTART (R193). -/
  | restart
  /-- CANCEL (R194). -/
  | cancel
  /-- UNKNOWN_CODE (R181): a command code that names no command. -/
  | unknownCode (code : Byte)
  /-- STAGED_WRITE (R184): the completed write of the staged field at this place. -/
  | stagedWrite (page offset : Byte) (value : BitVec 32)
  /-- MASK_WRITE (R165). -/
  | maskWrite (which : MaskByte) (value : Byte)
  /-- ALERT_HOLD_WRITE (R166). -/
  | alertHoldWrite (value : Byte)
  /-- FIELD_WRITE (R201): a request argument field. -/
  | fieldWrite (arg : Fin 3) (value : Byte)
  /-- DOWNSTREAM_PORT_READY (R92): the memory controller starts or stops taking requests. -/
  | downstreamPortReady (ready : Bool)
  deriving DecidableEq, Repr

end Sys2Proof
end

