-- ==== Sys2Proof/Config.lean ====
section
/-! DEFINITION. The constants that the manual fixes for every part: time units, sizes, counts and codes. The manual leaves no
value of a result open, so there is no free value here (INVENTORY.md, "What the manual leaves open"). -/

namespace Sys2Proof.Config

/-- Time-base units (10 ns) in one microsecond (R116). -/
def usTicks : Nat := 100
/-- Time-base units in one unit of the epoch length, 100 us (R117). -/
def epochTicks : Nat := 10000
/-- A timeout of N us expires no later than N + 1 us after it starts (00_scope, Time). -/
def timeoutSlack : Nat := usTicks
/-- SCL held low for 30 ms abandons a transfer, no earlier than 30 ms (R203). -/
def sclLowMin : Nat := 3000000
/-- ... and no later than 30.001 ms after SCL went low (R203). -/
def sclLowMax : Nat := 3000100

/-- Places of the local response list (R20). -/
def listPlaces : Nat := 8
/-- Slots of the hold pool (R62). -/
def holdSlots : Nat := 64
/-- Bytes in one beat (R1). -/
def beatBytes : Nat := 16
/-- Bytes in one page of memory (R8). -/
def memPage : Nat := 4096

/-- Top value of a 32-bit count; a count stays there until it is zeroed (R120). -/
def countTop : Nat := 4294967295
/-- Top value of a latency sum (R120). -/
def latencySumTop : Nat := 281474976710655
/-- Top value of a latency, 655,350 ns in units of 10 ns (R103). -/
def latencyTop : Nat := 65535

/-- Base of the target address; the straps are added to it (R197). -/
def targetBase : Nat := 0x5A
/-- Part code on page 00h (R204). -/
def partCode : Nat := 0x01A0
/-- Revision on page 00h (R204). -/
def revision : Nat := 0x01

end Sys2Proof.Config
end

