-- ==== Sys2Proof/Machine/State.lean ====
section
/-! DEFINITION. The state of the device, block by block as the manual names the blocks, and the state after reset. -/

namespace Sys2Proof.Machine

/-! ### Input levels -/

/-- The levels of the input pins that have an effect beyond the event that changes them (00, System placement). -/
structure Pins where
  reset : Bool
  urst : Bool
  drst : Bool
  hot : Bool
  downReady : Bool
  deriving DecidableEq, Repr

/-! ### Upstream port and entry stage (UPT) -/

/-- The reasons of a refusal (00, Response outcomes and refusal reasons). -/
inductive Reason where
  | window
  | span
  | duplicate
  | full
  | stale
  | retired
  deriving DecidableEq, Repr

/-- The outcome of a local response: DENIED carries a reason and LOST none (R20). -/
inductive LocalOutcome where
  | denied (r : Reason)
  | lost
  deriving DecidableEq, Repr

/-- An entry of the local response list (R20). -/
structure LocalEntry where
  pair : TagPair
  outcome : LocalOutcome
  registered : Bool
  deriving DecidableEq, Repr

/-- Who makes an offer to the local response list (R22): the entry stage, the admission unit for the held transaction of a
pair, or the downstream port for an in-flight entry. -/
inductive Offerer where
  | stage
  | held (p : TagPair)
  | inflight (n : EntryId)
  deriving DecidableEq, Repr

/-- An offer of an entry to the local response list (R21). -/
structure Offer where
  offerer : Offerer
  entry : LocalEntry
  deriving DecidableEq, Repr

/-- The entry stage (R5) with the working fields each state holds. -/
inductive Stage where
  | empty
  | waitSlot (req : Request) (registered : Bool) (stream : StreamId) (stallStart : Nat)
  | waitRefusal (req : Request) (registered : Bool) (stream : Option StreamId) (reason : Reason)
  | waitDrain (req : Request) (registered : Bool)
  | waitIssue (req : Request) (registered : Bool)
  deriving DecidableEq, Repr

/-- The sources of the upstream response arbiter (R23). -/
inductive Source where
  | downstream
  | local
  deriving DecidableEq, Repr

/-- The outcomes of an upstream response (R4). -/
inductive UpOutcome where
  | okay
  | memfault
  | denied (r : Reason)
  | lost
  deriving DecidableEq, Repr

/-- A response record on the upstream port (R4); read data is absent except for a READ with OKAY. -/
structure UpResponse where
  pair : TagPair
  outcome : UpOutcome
  data : Option (List (BitVec 128))
  deriving DecidableEq, Repr

/-! ### Admission unit (ADM) -/

/-- The states of a held transaction (R70). -/
inductive HeldState where
  | waiting
  | expired
  deriving DecidableEq, Repr

/-- A held transaction (R62). -/
structure Held where
  req : Request
  stream : StreamId
  acceptNo : BitVec 16
  placedAt : Nat
  guards : Nat
  state : HeldState
  deriving DecidableEq, Repr

/-- The account of a stream: its balance in bytes (R49) and its starved flag (R56). -/
structure Account where
  balance : Int
  starved : Bool
  deriving DecidableEq, Repr

/-! ### Issue arbiter (ARB) and in-flight table (DPT) -/

/-- The arbiter's values (R93). -/
structure Arbiter where
  lastProtected : StreamId
  current : StreamId
  grantsLeft : Nat
  deriving DecidableEq, Repr

/-- What an in-flight entry keeps of its transaction (R99); the stream is absent for a PASS-path issue. -/
structure Flight where
  pair : TagPair
  stream : Option StreamId
  kind : Kind
  beats : Fin 32
  issueTime : Nat
  deriving DecidableEq, Repr

/-- The end cause of an EXPIRING entry (R99). -/
inductive ExpireCause where
  | timeout
  | dreset
  deriving DecidableEq, Repr

/-- The end cause of a QUARANTINED entry (R99). -/
inductive QuarantineCause where
  | timeout
  | ureset
  deriving DecidableEq, Repr

/-- An in-flight entry (R99, R100). `latency` is present when a response is held. -/
inductive Entry where
  | free
  | active (t : Flight) (latency : Option Nat)
  | expiring (t : Flight) (cause : ExpireCause)
  | quarantined (t : Flight) (cause : QuarantineCause)
  deriving DecidableEq, Repr

/-- A request record on the downstream port (R2); its tag is the entry number. -/
structure DownRequest where
  initiator : Fin 64
  tag : EntryId
  kind : Kind
  address : BitVec 40
  beats : Fin 32
  data : List Beat
  deriving DecidableEq, Repr

/-- The response that stays offered at the downstream port until it is delivered (R3). -/
structure OfferedResponse where
  entry : EntryId
  outcome : MemOutcome
  data : List (BitVec 128)
  deriving DecidableEq, Repr

/-! ### Monitor (MON) -/

/-- The counts that a set of accumulators and a published record share (R120, R127, R128). `peak` is the peak slots used of a
stream, or the pool peak. -/
structure Counts where
  bytes : Nat
  reads : Nat
  writes : Nat
  completions : Nat
  memfaults : Nat
  latencyMax : Nat
  window : Nat
  full : Nat
  stale : Nat
  retired : Nat
  lost : Nat
  late : Nat
  drain : Nat
  peak : Nat
  deriving DecidableEq, Repr

/-- Every count 0. -/
def Counts.zero : Counts :=
  { bytes := 0, reads := 0, writes := 0, completions := 0, memfaults := 0, latencyMax := 0, window := 0, full := 0,
    stale := 0, retired := 0, lost := 0, late := 0, drain := 0, peak := 0 }

/-- A set of live accumulators (R120): the counts and the latency sum, which is not published. -/
structure Acc where
  counts : Counts
  latencySum : Nat
  deriving DecidableEq, Repr

/-- A zeroed set of accumulators. -/
def Acc.zero : Acc := { counts := Counts.zero, latencySum := 0 }

/-- A published stream record (R127). The mean is absent when there were no completions. -/
structure StreamReport where
  counts : Counts
  mean : Option Nat
  effRate : Nat
  balance : Int
  starved : Bool
  deriving DecidableEq, Repr

/-- The zeroed stream record (R131). -/
def StreamReport.zero : StreamReport := { counts := Counts.zero, mean := none, effRate := 0, balance := 0, starved := false }

/-- The published global record (R128); its sequence number is the monitor's. -/
structure GlobalReport where
  regulated : Bool
  epochLength : Nat
  counts : Counts
  mean : Option Nat
  span : Nat
  duplicate : Nat
  orphan : Nat
  discard : Nat
  deriving DecidableEq, Repr

/-- The zeroed global record (R131). -/
def GlobalReport.zero : GlobalReport :=
  { regulated := false, epochLength := 0, counts := Counts.zero, mean := none, span := 0, duplicate := 0, orphan := 0,
    discard := 0 }

/-- The watches of a stream (R133, R134); `true` is TRIPPED. -/
structure Watch where
  high : Bool
  low : Bool
  latency : Bool
  fault : Nat
  deriving DecidableEq, Repr

/-- Every item CLEAR, fault counter 0. -/
def Watch.clear : Watch := { high := false, low := false, latency := false, fault := 0 }

/-- The monitor: the epoch timer (R117, R118), the accumulators (R120), the published report (R126), the sequence number
(R131), the watches (R132), and whether the adjustment that follows a publication is still to come (R140). -/
structure Monitor where
  epochStart : Nat
  epochEnd : Nat
  epochLen : Nat
  regulated : Bool
  adjustDue : Bool
  seq : BitVec 16
  acc : Vector Acc 16
  gacc : Acc
  span : Nat
  duplicate : Nat
  orphan : Nat
  discard : Nat
  reports : Vector StreamReport 16
  greport : GlobalReport
  watches : Vector Watch 16
  deriving DecidableEq, Repr

/-! ### Governor (GOV) and alarm unit (ALM) -/

/-- The pressure state (R138). -/
inductive Pressure where
  | normal
  | emergency
  deriving DecidableEq, Repr

/-- The governor (R138). -/
structure Governor where
  rate : Vector Nat 16
  miss : Vector Nat 16
  hotFilter : Nat
  pressure : Pressure
  deriving DecidableEq, Repr

/-- The alarm unit (R159, R165, R166): a set status bit is SET, a set mask bit is MASKED, in the bit order of R207. -/
structure Alarm where
  status : Vector (BitVec 6) 16
  globalStatus : BitVec 7
  mask : Vector (BitVec 6) 16
  globalMask : BitVec 7
  hold : Bool
  deriving DecidableEq, Repr

/-! ### Configuration unit (CFG) -/

/-- A window entry (R29) in the widths of its page layout (R208). -/
structure WindowEntry where
  valid : Bool
  matchRange : Bool
  stream : Byte
  permission : Byte
  low : Byte
  high : Byte
  base : BitVec 32
  limit : BitVec 32
  deriving DecidableEq, Repr

/-- A stream configuration record (R44) in the widths of its page layout (R208). -/
structure StreamRecord where
  stateRequest : Byte
  cls : Byte
  weight : Byte
  mode : Byte
  configured : BitVec 16
  floor : BitVec 16
  maxRate : BitVec 16
  step : BitVec 16
  ceiling : BitVec 32
  reserved : Byte
  maxSlots : Byte
  overflow : Byte
  faultCount : Byte
  holdLimit : BitVec 16
  rateMode : Byte
  latencyMode : Byte
  rateHigh : BitVec 24
  rateLow : BitVec 24
  latencyOver : BitVec 16
  latencyRelease : BitVec 16
  deriving DecidableEq, Repr

/-- The global settings (R176) in the widths of their page layout (R205). -/
structure GlobalSettings where
  regimeRequest : Byte
  missPolicy : Byte
  missStream : Byte
  hotFilter : Byte
  epochLength : BitVec 16
  refillPeriod : Byte
  missCount : Byte
  stallTimeout : BitVec 16
  responseTimeout : BitVec 16
  latencyOffset : Byte
  quarantineThreshold : Byte
  cruiseTarget : BitVec 16
  cruiseTolerance : BitVec 16
  criticalLimit : BitVec 16
  criticalRelease : BitVec 16
  deriving DecidableEq, Repr

/-- One copy of the configuration (R174). -/
structure Settings where
  global : GlobalSettings
  streams : Vector StreamRecord 16
  windows : Vector WindowEntry 24
  deriving DecidableEq, Repr

/-- The state of a stream (R45). -/
inductive StreamState where
  | off
  | on
  | retiring
  deriving DecidableEq, Repr

/-- The regimes (R178). -/
inductive Regime where
  | pass
  | regulate
  | draining
  deriving DecidableEq, Repr

/-- The states of the command slot (R180). -/
inductive SlotState where
  | idle
  | pending
  | done
  | refused
  | cancelled
  deriving DecidableEq, Repr

/-- The result codes (R182). -/
inductive Result where
  | none
  | ok
  | busy
  | unknown
  | range
  | rateOrder
  | slotOrder
  | reserveSum
  | rateLimits
  | latencyLimits
  | criticalOrder
  | windowForm
  | windowStream
  | missStream
  | occupied
  | badArg
  | wrongRegime
  | nothingPending
  | cancelled
  deriving DecidableEq, Repr

/-- Where the check that refused a COMMIT failed (R180). -/
inductive Detail where
  | none
  | global
  | stream (s : StreamId)
  | window (n : WindowId)
  deriving DecidableEq, Repr

/-- The command slot (R180). `judgeAt` is the boundary at which a PENDING COMMIT is judged (R185). -/
structure Slot where
  code : Byte
  args : Vector Byte 3
  state : SlotState
  result : Result
  detail : Detail
  discarded : Nat
  judgeAt : Nat
  deriving DecidableEq, Repr

/-- The configuration unit: both copies (R174), the stream states (R175), the regime (R178), the command slot (R180) and the
request argument fields of the command page (R206). -/
structure CfgUnit where
  staged : Settings
  active : Settings
  streamState : Vector StreamState 16
  regime : Regime
  slot : Slot
  reqArgs : Vector Byte 3
  deriving DecidableEq, Repr

/-! ### Management link (MGT) -/

/-- The transfer state (R197). -/
inductive TransferState where
  | idle
  | writePage
  | writeOffset
  | writeData
  | read
  deriving DecidableEq, Repr

/-- The read latch: a multi-byte field, by its page and lowest offset, with its whole value (R200). -/
structure ReadLatch where
  page : Nat
  offset : Nat
  value : Nat
  deriving DecidableEq, Repr

/-- The write latch: a multi-byte field, by its page and lowest offset, with the bytes written to it, each with its place in
the field (R201). -/
structure WriteLatch where
  page : Nat
  offset : Nat
  bytes : List (Nat × Byte)
  deriving DecidableEq, Repr

/-- The management link (R197). `readEnded` says that a byte of the read transfer in progress was not acknowledged, after
which the device sends nothing (R199). -/
structure Link where
  page : Byte
  offset : Nat
  state : TransferState
  readEnded : Bool
  readLatch : Option ReadLatch
  writeLatch : Option WriteLatch
  straps : BitVec 2
  deriving DecidableEq, Repr

/-! ### Outputs (the model's own record) -/

/-- What the device has put on its outputs since RESET#, oldest first (log 5): requests on the downstream port, responses on
the upstream port, bytes on the link, and whether it acknowledged the last address or data byte of the link. -/
structure Ports where
  downSent : List DownRequest
  upSent : List UpResponse
  linkSent : List Byte
  linkAck : Bool
  deriving DecidableEq, Repr

/-! ### The state -/

/-- The whole device. `pending` is the queue of commands that wait, first in first out. -/
structure State where
  now : Nat
  pins : Pins
  stage : Stage
  tagMap : List TagPair
  localList : List LocalEntry
  offers : List Offer
  preferred : Source
  pool : List Held
  acceptCtr : BitVec 16
  accounts : Vector Account 16
  refillDue : Nat
  arb : Arbiter
  table : Vector Entry 48
  downResp : Option OfferedResponse
  mon : Monitor
  gov : Governor
  alm : Alarm
  cfg : CfgUnit
  link : Link
  ports : Ports
  pending : List Instr
  deriving DecidableEq, Repr

/-- The device has no event that stops it, so there is no fault. -/
inductive Fault where
  deriving DecidableEq, Repr

/-- Why a command has no meaning in the model. -/
inductive Refusal where
  /-- Raised by an arm of exec whose command has no meaning yet; safe, since nothing is proved of such a run. No arm uses it. -/
  | notModelled (mnemonic : String)
  deriving DecidableEq, Repr

/-! ### Power-on values -/

/-- The power-on window entry (R43). -/
def WindowEntry.powerOn : WindowEntry :=
  { valid := false, matchRange := false, stream := 0, permission := 0, low := 0, high := 0, base := 0, limit := 0 }

/-- The power-on stream record (R44): only the state request differs between stream 0 and the others. -/
def StreamRecord.powerOn (s : StreamId) : StreamRecord :=
  { stateRequest := if s = 0 then 1 else 0
    cls := 1
    weight := 1
    mode := 0
    configured := 4096
    floor := 0
    maxRate := 4096
    step := 16
    ceiling := 4096
    reserved := 0
    maxSlots := 64
    overflow := 0
    faultCount := 1
    holdLimit := 1000
    rateMode := 0
    latencyMode := 0
    rateHigh := 0
    rateLow := 0
    latencyOver := 0
    latencyRelease := 0 }

/-- The power-on global settings (R176). -/
def GlobalSettings.powerOn : GlobalSettings :=
  { regimeRequest := 0
    missPolicy := 0
    missStream := 0
    hotFilter := 2
    epochLength := 10
    refillPeriod := 1
    missCount := 8
    stallTimeout := 100
    responseTimeout := 2000
    latencyOffset := 0
    quarantineThreshold := 8
    cruiseTarget := 100
    cruiseTolerance := 10
    criticalLimit := 0
    criticalRelease := 0 }

/-- The power-on copy of the configuration (R177). -/
def Settings.powerOn : Settings :=
  { global := GlobalSettings.powerOn
    streams := Vector.ofFn StreamRecord.powerOn
    windows := Vector.replicate 24 WindowEntry.powerOn }

/-- The command slot after RESET#: IDLE with code 00h, result NONE and no discarded write (R177, R206). The argument bytes that page
03h reads at 09h to 0Bh are 0: DESIGN CHOICE (log 7), for R177 says "no arguments" and R206 gives 00h for the code only. -/
def Slot.powerOn : Slot :=
  { code := 0, args := Vector.replicate 3 0, state := .idle, result := .none, detail := .none, discarded := 0, judgeAt := 0 }

/-- The configuration unit after RESET# (R177). The request argument fields are 0: DESIGN CHOICE (log 7). -/
def CfgUnit.powerOn : CfgUnit :=
  { staged := Settings.powerOn
    active := Settings.powerOn
    streamState := Vector.ofFn fun s => if s = 0 then .on else .off
    regime := .pass
    slot := Slot.powerOn
    reqArgs := Vector.replicate 3 0 }

/-- The monitor at the deassertion of RESET# (R117, R119, R131, R137): the first boundary falls 1 ms later. -/
def Monitor.powerOn : Monitor :=
  { epochStart := 0, epochEnd := 100000, epochLen := 10, regulated := false, adjustDue := false, seq := 0
    acc := Vector.replicate 16 Acc.zero, gacc := Acc.zero, span := 0, duplicate := 0, orphan := 0, discard := 0
    reports := Vector.replicate 16 StreamReport.zero, greport := GlobalReport.zero
    watches := Vector.replicate 16 Watch.clear }

/-- The governor at the deassertion of RESET# (R156). -/
def Governor.powerOn : Governor :=
  { rate := Vector.replicate 16 4096, miss := Vector.replicate 16 0, hotFilter := 0, pressure := .normal }

/-- The alarm unit after RESET# (R159, R165, R166). -/
def Alarm.powerOn : Alarm :=
  { status := Vector.replicate 16 0, globalStatus := 0, mask := Vector.replicate 16 0x3F, globalMask := 0x7F, hold := false }

/-- The management link after RESET# (R197), with the sampled straps. -/
def Link.powerOn (straps : BitVec 2) : Link :=
  { page := 0, offset := 0, state := .idle, readEnded := false, readLatch := none, writeLatch := none, straps := straps }

/-- Nothing sent. -/
def Ports.none : Ports := { downSent := [], upSent := [], linkSent := [], linkAck := false }

/-- The power-on state with these pin levels, straps and queue: the state right after the deassertion of RESET#. -/
def State.powerOn (pins : Pins) (straps : BitVec 2) (pending : List Instr) : State :=
  { now := 0
    pins := pins
    stage := .empty
    tagMap := []
    localList := []
    offers := []
    preferred := .downstream
    pool := []
    acceptCtr := 0
    accounts := Vector.replicate 16 { balance := 0, starved := false }
    refillDue := 100
    arb := { lastProtected := 15, current := 15, grantsLeft := 0 }
    table := Vector.replicate 48 .free
    downResp := none
    mon := Monitor.powerOn
    gov := Governor.powerOn
    alm := Alarm.powerOn
    cfg := CfgUnit.powerOn
    link := Link.powerOn straps
    ports := Ports.none
    pending := pending }

/-- The machine right after reset: RESET# has been deasserted with straps 0, the other input levels are inactive (DESIGN
CHOICE, log 6), and nothing waits in the queue. -/
def State.reset : State :=
  State.powerOn { reset := false, urst := false, drst := false, hot := false, downReady := false } 0 []

end Sys2Proof.Machine
end

