-- ==== Sys2Proof/Machine/Operands.lean ====
section
/-! DEFINITION. Reading the operands: the geometry of a request, the codes of the configuration fields, the checks that a
configuration must pass, the window lookup, and the byte layouts of the configuration records. -/

namespace Sys2Proof.Machine

/-! ### Requests (R1, R8, R30, R76) -/

/-- The (initiator, tag) pair of a request (R6). -/
def pairOf (r : Request) : TagPair := { initiator := r.initiator, tag := r.tag }

/-- The byte count of a beat count (R1). -/
def byteCount (beats : Fin 32) : Nat := beats.val * Config.beatBytes

/-- The byte count of a request (R1). -/
def bytesOf (r : Request) : Nat := byteCount r.beats

/-- The span check (R8): the request is malformed. -/
def malformed (r : Request) : Bool :=
  !(1 ≤ r.beats.val && r.beats.val ≤ 16)
    || r.address.toNat % 16 != 0
    || Config.memPage < r.address.toNat % Config.memPage + bytesOf r

/-- The page-of-memory number of a request (R30). -/
def pageOf (r : Request) : Nat := r.address.toNat / Config.memPage

/-- Two byte ranges share a byte (R76): the later start lies before the earlier end. -/
def overlaps (a b : Request) : Bool :=
  max a.address.toNat b.address.toNat < min (a.address.toNat + bytesOf a) (b.address.toNat + bytesOf b)

/-- Two transactions conflict (R76). -/
def conflicts (a : Request) (sa : StreamId) (b : Request) (sb : StreamId) : Bool :=
  a.initiator == b.initiator && sa != sb && overlaps a b && (a.kind == .write || b.kind == .write)

/-! ### Codes of the configuration fields (R205, R208)

The staged copy may hold codes that name no value; the active copy never does (R174), so what the readers below say of such a
code is never used by the device (log 12). -/

/-- The classes (R47). -/
inductive StreamClass where
  | prot
  | paced
  | bulk
  deriving DecidableEq, Repr

/-- The governor modes (R44). -/
inductive GovMode where
  | fixed
  | ramp
  | cruise
  deriving DecidableEq, Repr

/-- The watch modes (R162). -/
inductive WatchMode where
  | level
  | trip
  | both
  deriving DecidableEq, Repr

/-- The class of a stream: 0 PROTECTED, 1 PACED, 2 BULK (R208). -/
def classOf (r : StreamRecord) : StreamClass :=
  if r.cls = 0 then .prot else if r.cls = 1 then .paced else .bulk

/-- The governor mode: 0 FIXED, 1 RAMP, 2 CRUISE (R208). -/
def modeOf (r : StreamRecord) : GovMode :=
  if r.mode = 0 then .fixed else if r.mode = 1 then .ramp else .cruise

/-- A watch mode code: 0 LEVEL, 1 TRIP, 2 BOTH (R208). -/
def watchModeOf (code : Byte) : WatchMode :=
  if code = 0 then .level else if code = 1 then .trip else .both

/-- The state request is ON (R208). -/
def requestsOn (r : StreamRecord) : Bool := r.stateRequest == 1

/-- The overflow policy is REFUSE: 0 STALL, 1 REFUSE (R208). -/
def policyRefuse (r : StreamRecord) : Bool := r.overflow == 1

/-- The regime request is REGULATE: 0 PASS, 1 REGULATE (R205). -/
def requestsRegulate (g : GlobalSettings) : Bool := g.regimeRequest == 1

/-- The miss policy is DENY: 0 FORWARD, 1 DENY (R205). -/
def missDenies (g : GlobalSettings) : Bool := g.missPolicy == 1

/-- The stream that a stream field of 0 to 15 names (R205, R208). -/
def streamNamed (code : Byte) : StreamId := Fin.ofNat 16 code.toNat

/-- The permission allows the kind (R33): 0 NONE, 1 READ, 2 WRITE, 3 READ_WRITE (R208). -/
def allows (permission : Byte) : Kind → Bool
  | .read => permission == 1 || permission == 3
  | .write => permission == 2 || permission == 3

/-! ### Lookup (R31 to R37) -/

/-- A window matches a request (R31). -/
def windowMatches (w : WindowEntry) (r : Request) : Bool :=
  w.valid && w.base.toNat ≤ pageOf r && pageOf r ≤ w.limit.toNat
    && (!w.matchRange || (w.low.toNat ≤ r.initiator.val && r.initiator.val ≤ w.high.toNat))

/-- The lookup hit: the lowest-numbered window that matches (R32). -/
def lookup (c : Settings) (r : Request) : Option WindowEntry := c.windows.toList.find? fun w => windowMatches w r

/-- The result of classification (R10): the recorded stream, and whether the request may proceed. -/
def classify (c : Settings) (r : Request) : StreamId × Bool :=
  match lookup c r with
  | some w => (streamNamed w.stream, allows w.permission r.kind)
  | none => (streamNamed c.global.missStream, !missDenies c.global)

/-! ### Checks of a configuration (R41, R183) -/

/-- Every global setting lies in its range (R176). -/
def globalInRange (g : GlobalSettings) : Bool :=
  g.regimeRequest.toNat ≤ 1 && g.missPolicy.toNat ≤ 1 && g.missStream.toNat ≤ 15
    && (1 ≤ g.hotFilter.toNat && g.hotFilter.toNat ≤ 4)
    && (1 ≤ g.epochLength.toNat && g.epochLength.toNat ≤ 1000)
    && (1 ≤ g.refillPeriod.toNat && g.refillPeriod.toNat ≤ 64)
    && 1 ≤ g.missCount.toNat && 1 ≤ g.stallTimeout.toNat && 16 ≤ g.responseTimeout.toNat
    && (-100 ≤ g.latencyOffset.toInt && g.latencyOffset.toInt ≤ 100)
    && (1 ≤ g.quarantineThreshold.toNat && g.quarantineThreshold.toNat ≤ 48)

/-- Every field of a stream record lies in its range, and its ceiling is a multiple of 256 (R44). -/
def streamInRange (r : StreamRecord) : Bool :=
  r.stateRequest.toNat ≤ 1 && r.cls.toNat ≤ 2 && (1 ≤ r.weight.toNat && r.weight.toNat ≤ 15) && r.mode.toNat ≤ 2
    && r.configured.toNat ≤ 4096 && r.floor.toNat ≤ 4096 && r.maxRate.toNat ≤ 4096
    && (1 ≤ r.step.toNat && r.step.toNat ≤ 1024)
    && (256 ≤ r.ceiling.toNat && r.ceiling.toNat ≤ 1048576 && r.ceiling.toNat % 256 == 0)
    && r.reserved.toNat ≤ 8 && (1 ≤ r.maxSlots.toNat && r.maxSlots.toNat ≤ 64) && r.overflow.toNat ≤ 1
    && (1 ≤ r.faultCount.toNat && r.faultCount.toNat ≤ 4) && r.rateMode.toNat ≤ 2 && r.latencyMode.toNat ≤ 2

/-- Every field of a window entry, valid or not, lies in its range (R29). -/
def windowInRange (w : WindowEntry) : Bool :=
  w.stream.toNat ≤ 15 && w.permission.toNat ≤ 3 && w.low.toNat ≤ 63 && w.high.toNat ≤ 63
    && w.base.toNat ≤ 0x0FFFFFFF && w.limit.toNat ≤ 0x0FFFFFFF

/-- Floor ≤ configured rate ≤ max rate (R183, order 2). -/
def rateOrdered (r : StreamRecord) : Bool :=
  r.floor.toNat ≤ r.configured.toNat && r.configured.toNat ≤ r.maxRate.toNat

/-- Reserved slots ≤ max slots (R183, order 3). -/
def slotOrdered (r : StreamRecord) : Bool := r.reserved.toNat ≤ r.maxSlots.toNat

/-- The reserved total (R64). -/
def reservedTotal (c : Settings) : Nat := (allStreams.map fun s => c.streams[s].reserved.toNat).sum

/-- The rate limits are in order when both are on (R183, order 5). -/
def rateLimitsOrdered (r : StreamRecord) : Bool :=
  r.rateLow.toNat == 0 || r.rateHigh.toNat == 0 || r.rateLow.toNat ≤ r.rateHigh.toNat

/-- Release limit ≤ over-limit (R183, order 6). -/
def latencyLimitsOrdered (r : StreamRecord) : Bool := r.latencyRelease.toNat ≤ r.latencyOver.toNat

/-- A valid window has its bounds in order (R183, order 8). -/
def windowFormed (w : WindowEntry) : Bool :=
  !w.valid || (w.base.toNat ≤ w.limit.toNat && (!w.matchRange || w.low.toNat ≤ w.high.toNat))

/-- A valid window names a stream that is requested ON (R183, order 9). -/
def windowStreamOn (c : Settings) (w : WindowEntry) : Bool := !w.valid || requestsOn c.streams[streamNamed w.stream]

/-- A FORWARD miss stream is requested ON (R183, order 10). -/
def missStreamOn (c : Settings) : Bool := missDenies c.global || requestsOn c.streams[streamNamed c.global.missStream]

/-- The first stream at which a check fails. -/
def firstStream (c : Settings) (ok : StreamRecord → Bool) : Option Detail :=
  (allStreams.find? fun s => !ok c.streams[s]).map .stream

/-- The first window at which a check fails. -/
def firstWindow (c : Settings) (ok : WindowEntry → Bool) : Option Detail :=
  (allWindows.find? fun n => !ok c.windows[n]).map .window

/-- The one place of a check on the global settings. -/
def globalPlace (ok : Bool) : Option Detail := if ok then none else some .global

/-- The ten static checks in their order, each with its code and the first place at which it fails (R183). -/
def staticChecks (c : Settings) : List (Result × Option Detail) :=
  [ (.range, (globalPlace (globalInRange c.global)).or ((firstStream c streamInRange).or (firstWindow c windowInRange))),
    (.rateOrder, firstStream c rateOrdered),
    (.slotOrder, firstStream c slotOrdered),
    (.reserveSum, globalPlace (reservedTotal c ≤ Config.holdSlots)),
    (.rateLimits, firstStream c rateLimitsOrdered),
    (.latencyLimits, firstStream c latencyLimitsOrdered),
    (.criticalOrder, globalPlace (c.global.criticalRelease.toNat ≤ c.global.criticalLimit.toNat)),
    (.windowForm, firstWindow c windowFormed),
    (.windowStream, firstWindow c (windowStreamOn c)),
    (.missStream, globalPlace (missStreamOn c)) ]

/-- The first check that fails, with its place (R183); none when the copy passes. -/
def staticFailure (c : Settings) : Option (Result × Detail) :=
  (staticChecks c).findSome? fun (code, place) => place.map fun d => (code, d)

/-! ### Byte layouts of the configuration records (R200, R205, R208) -/

/-- A field of a record layout: its lowest offset, its length in bytes, and its value as a little-endian number. -/
structure Field (α : Type) where
  off : Nat
  len : Nat
  get : α → Nat
  set : α → Nat → α

/-- The field of a layout that holds an offset. -/
def fieldAt {α : Type} (layout : List (Field α)) (o : Nat) : Option (Field α) :=
  layout.find? fun f => f.off ≤ o && o < f.off + f.len

/-- A field of a part of a record. -/
def Field.within {α β : Type} (f : Field α) (get : β → α) (set : β → α → β) : Field β :=
  { off := f.off, len := f.len, get := fun b => f.get (get b), set := fun b v => set b (f.set (get b) v) }

/-- The layout of pages 01h and 02h (R205). -/
def globalLayout : List (Field GlobalSettings) :=
  [ ⟨0x00, 1, fun g => g.regimeRequest.toNat, fun g v => { g with regimeRequest := BitVec.ofNat 8 v }⟩,
    ⟨0x01, 1, fun g => g.missPolicy.toNat, fun g v => { g with missPolicy := BitVec.ofNat 8 v }⟩,
    ⟨0x02, 1, fun g => g.missStream.toNat, fun g v => { g with missStream := BitVec.ofNat 8 v }⟩,
    ⟨0x03, 1, fun g => g.hotFilter.toNat, fun g v => { g with hotFilter := BitVec.ofNat 8 v }⟩,
    ⟨0x04, 2, fun g => g.epochLength.toNat, fun g v => { g with epochLength := BitVec.ofNat 16 v }⟩,
    ⟨0x06, 1, fun g => g.refillPeriod.toNat, fun g v => { g with refillPeriod := BitVec.ofNat 8 v }⟩,
    ⟨0x07, 1, fun g => g.missCount.toNat, fun g v => { g with missCount := BitVec.ofNat 8 v }⟩,
    ⟨0x08, 2, fun g => g.stallTimeout.toNat, fun g v => { g with stallTimeout := BitVec.ofNat 16 v }⟩,
    ⟨0x0A, 2, fun g => g.responseTimeout.toNat, fun g v => { g with responseTimeout := BitVec.ofNat 16 v }⟩,
    ⟨0x0C, 1, fun g => g.latencyOffset.toNat, fun g v => { g with latencyOffset := BitVec.ofNat 8 v }⟩,
    ⟨0x0D, 1, fun g => g.quarantineThreshold.toNat, fun g v => { g with quarantineThreshold := BitVec.ofNat 8 v }⟩,
    ⟨0x0E, 2, fun g => g.cruiseTarget.toNat, fun g v => { g with cruiseTarget := BitVec.ofNat 16 v }⟩,
    ⟨0x10, 2, fun g => g.cruiseTolerance.toNat, fun g v => { g with cruiseTolerance := BitVec.ofNat 16 v }⟩,
    ⟨0x12, 2, fun g => g.criticalLimit.toNat, fun g v => { g with criticalLimit := BitVec.ofNat 16 v }⟩,
    ⟨0x14, 2, fun g => g.criticalRelease.toNat, fun g v => { g with criticalRelease := BitVec.ofNat 16 v }⟩ ]

/-- The flags byte of a window entry: bit 0 valid, bit 1 initiator match; the other bits read 0 and are ignored (R202, R208). -/
def windowFlags (w : WindowEntry) : Nat := w.valid.toNat + 2 * w.matchRange.toNat

/-- The layout of a window entry (R208). -/
def windowLayout : List (Field WindowEntry) :=
  [ ⟨0x00, 1, windowFlags, fun w v => { w with valid := v.testBit 0, matchRange := v.testBit 1 }⟩,
    ⟨0x01, 1, fun w => w.stream.toNat, fun w v => { w with stream := BitVec.ofNat 8 v }⟩,
    ⟨0x02, 1, fun w => w.permission.toNat, fun w v => { w with permission := BitVec.ofNat 8 v }⟩,
    ⟨0x04, 1, fun w => w.low.toNat, fun w v => { w with low := BitVec.ofNat 8 v }⟩,
    ⟨0x05, 1, fun w => w.high.toNat, fun w v => { w with high := BitVec.ofNat 8 v }⟩,
    ⟨0x08, 4, fun w => w.base.toNat, fun w v => { w with base := BitVec.ofNat 32 v }⟩,
    ⟨0x0C, 4, fun w => w.limit.toNat, fun w v => { w with limit := BitVec.ofNat 32 v }⟩ ]

/-- The layout of a stream record (R208). -/
def streamLayout : List (Field StreamRecord) :=
  [ ⟨0x00, 1, fun r => r.stateRequest.toNat, fun r v => { r with stateRequest := BitVec.ofNat 8 v }⟩,
    ⟨0x01, 1, fun r => r.cls.toNat, fun r v => { r with cls := BitVec.ofNat 8 v }⟩,
    ⟨0x02, 1, fun r => r.weight.toNat, fun r v => { r with weight := BitVec.ofNat 8 v }⟩,
    ⟨0x03, 1, fun r => r.mode.toNat, fun r v => { r with mode := BitVec.ofNat 8 v }⟩,
    ⟨0x04, 2, fun r => r.configured.toNat, fun r v => { r with configured := BitVec.ofNat 16 v }⟩,
    ⟨0x06, 2, fun r => r.floor.toNat, fun r v => { r with floor := BitVec.ofNat 16 v }⟩,
    ⟨0x08, 2, fun r => r.maxRate.toNat, fun r v => { r with maxRate := BitVec.ofNat 16 v }⟩,
    ⟨0x0A, 2, fun r => r.step.toNat, fun r v => { r with step := BitVec.ofNat 16 v }⟩,
    ⟨0x0C, 4, fun r => r.ceiling.toNat, fun r v => { r with ceiling := BitVec.ofNat 32 v }⟩,
    ⟨0x10, 1, fun r => r.reserved.toNat, fun r v => { r with reserved := BitVec.ofNat 8 v }⟩,
    ⟨0x11, 1, fun r => r.maxSlots.toNat, fun r v => { r with maxSlots := BitVec.ofNat 8 v }⟩,
    ⟨0x12, 1, fun r => r.overflow.toNat, fun r v => { r with overflow := BitVec.ofNat 8 v }⟩,
    ⟨0x13, 1, fun r => r.faultCount.toNat, fun r v => { r with faultCount := BitVec.ofNat 8 v }⟩,
    ⟨0x14, 2, fun r => r.holdLimit.toNat, fun r v => { r with holdLimit := BitVec.ofNat 16 v }⟩,
    ⟨0x16, 1, fun r => r.rateMode.toNat, fun r v => { r with rateMode := BitVec.ofNat 8 v }⟩,
    ⟨0x17, 1, fun r => r.latencyMode.toNat, fun r v => { r with latencyMode := BitVec.ofNat 8 v }⟩,
    ⟨0x18, 3, fun r => r.rateHigh.toNat, fun r v => { r with rateHigh := BitVec.ofNat 24 v }⟩,
    ⟨0x1C, 3, fun r => r.rateLow.toNat, fun r v => { r with rateLow := BitVec.ofNat 24 v }⟩,
    ⟨0x20, 2, fun r => r.latencyOver.toNat, fun r v => { r with latencyOver := BitVec.ofNat 16 v }⟩,
    ⟨0x22, 2, fun r => r.latencyRelease.toNat, fun r v => { r with latencyRelease := BitVec.ofNat 16 v }⟩ ]

/-- The items of a copy of the configuration that the page map places (R204). -/
inductive Place where
  | global
  | stream (s : StreamId)
  | window (n : WindowId)
  deriving DecidableEq, Repr

/-- The item that holds an offset, counted from the first page of its kind, and the offset within the item (R204): window n at
offset 16n over two pages, stream s at offset 64 × s over four. -/
def windowPlace (o : Nat) : Option (Place × Nat) :=
  if h : o / 16 < 24 then some (.window ⟨o / 16, h⟩, o % 16) else none

/-- As `windowPlace`, for the stream records. -/
def streamPlace (o : Nat) : Option (Place × Nat) :=
  if h : o / 64 < 16 then some (.stream ⟨o / 64, h⟩, o % 64) else none

/-- The item of the staged copy at (page, offset) (R204). -/
def stagedPlace (page off : Nat) : Option (Place × Nat) :=
  if page = 0x01 then some (.global, off)
  else if 0x10 ≤ page ∧ page ≤ 0x11 then windowPlace ((page - 0x10) * 256 + off)
  else if 0x20 ≤ page ∧ page ≤ 0x23 then streamPlace ((page - 0x20) * 256 + off)
  else none

/-- The item of the active copy at (page, offset) (R204). -/
def activePlace (page off : Nat) : Option (Place × Nat) :=
  if page = 0x02 then some (.global, off)
  else if 0x12 ≤ page ∧ page ≤ 0x13 then windowPlace ((page - 0x12) * 256 + off)
  else if 0x24 ≤ page ∧ page ≤ 0x27 then streamPlace ((page - 0x24) * 256 + off)
  else none

/-- The field of a copy at an offset of one of its items. -/
def settingsField (p : Place) (o : Nat) : Option (Field Settings) :=
  match p with
  | .global => (fieldAt globalLayout o).map fun f => f.within (·.global) fun c g => { c with global := g }
  | .stream s => (fieldAt streamLayout o).map fun f => f.within (·.streams[s]) fun c r => { c with streams := putAt c.streams s r }
  | .window n => (fieldAt windowLayout o).map fun f => f.within (·.windows[n]) fun c w => { c with windows := putAt c.windows n w }

/-- Byte `i` of a little-endian number (R200). -/
def byteOf (v i : Nat) : Byte := BitVec.ofNat 8 (v / 256 ^ i)

end Sys2Proof.Machine
end

