-- ==== Sys2Proof/Machine/Pool.lean ====
section
/-! DEFINITION. Views of the hold pool, the in-flight table and the active configuration: occupancy, queues, guards, the
placement test, free entries, and what may be issued. Nothing here changes the state. -/

namespace Sys2Proof.Machine

/-! ### The active configuration -/

/-- The active record of a stream (R44). -/
def State.record (s : State) (k : StreamId) : StreamRecord := s.cfg.active.streams[k]

/-- The active global settings (R176). -/
def State.settings (s : State) : GlobalSettings := s.cfg.active.global

/-- The class of a stream in the active configuration is PROTECTED (R47). -/
def State.isProtected (s : State) (k : StreamId) : Bool := classOf (s.record k) == .prot

/-! ### Slots and queues (R62, R63) -/

/-- The pair of a held transaction. -/
def Held.pair (h : Held) : TagPair := pairOf h.req

/-- The transaction is WAITING (R70). -/
def Held.isWaiting (h : Held) : Bool := h.state == .waiting

/-- The occupancy of a stream, WAITING and EXPIRED alike (R62). -/
def usedIn (pool : List Held) (k : StreamId) : Nat := pool.countP fun h => h.stream == k

/-- `usedIn` of the device's pool. -/
def State.used (s : State) (k : StreamId) : Nat := usedIn s.pool k

/-- The queue head of a stream: its oldest WAITING transaction (R63). -/
def State.queueHead (s : State) (k : StreamId) : Option Held := s.pool.find? fun h => h.stream == k && h.isWaiting

/-- The head of the stream's queue is WAITING with a guard count above 0 (R79). -/
def State.guardBlocked (s : State) (k : StreamId) : Bool :=
  match s.queueHead k with
  | some h => h.guards != 0
  | none => false

/-! ### Placement (R64, R65, R67) -/

/-- The shared-in-use of a pool under the reservations of a configuration (R64). -/
def sharedInUse (c : Settings) (pool : List Held) : Nat :=
  (allStreams.map fun k => usedIn pool k - c.streams[k].reserved.toNat).sum

/-- The shared size of a configuration (R64). -/
def sharedSize (c : Settings) : Nat := Config.holdSlots - reservedTotal c

/-- The acceptance sequence counter has caught up with the oldest held transaction (R67). -/
def State.caughtUp (s : State) : Bool :=
  match s.pool with
  | [] => false
  | h :: _ => h.acceptNo == s.acceptCtr

/-- The placement test for a stream (R65). -/
def State.placementOk (s : State) (k : StreamId) : Bool :=
  s.used k < (s.record k).maxSlots.toNat
    && (s.used k < (s.record k).reserved.toNat || sharedInUse s.cfg.active s.pool < sharedSize s.cfg.active)
    && !s.caughtUp

/-! ### The order guard (R76 to R78) -/

/-- A held WAITING transaction guards a request of stream `k` (R77). -/
def Held.guardsReq (h : Held) (r : Request) (k : StreamId) : Bool := h.isWaiting && conflicts h.req h.stream r k

/-- The guard count a request of stream `k` receives at placement (R77). -/
def guardCount (pool : List Held) (r : Request) (k : StreamId) : Nat := pool.countP fun h => h.guardsReq r k

/-- A younger transaction loses the guard of `h`, which leaves its queue (R78). -/
def releaseGuard (h t : Held) : Held :=
  if t.isWaiting && conflicts h.req h.stream t.req t.stream then { t with guards := t.guards - 1 } else t

/-- The WAITING transaction of a pair leaves its queue: `stay` says what remains of it in the pool (nothing at issue, the
EXPIRED transaction at expiry), and the younger transactions it guards are released (R73, R78, R81). -/
def leaveQueue (stay : Held → List Held) (p : TagPair) : List Held → List Held
  | [] => []
  | h :: rest =>
    if h.isWaiting && h.pair == p then stay h ++ rest.map (releaseGuard h) else h :: leaveQueue stay p rest

/-- An EXPIRED transaction leaves the pool (R74). -/
def dropExpired (p : TagPair) (pool : List Held) : List Held := pool.filter fun h => h.isWaiting || h.pair != p

/-! ### The in-flight table (R99, R100) -/

/-- The entry is FREE. -/
def Entry.isFree : Entry → Bool
  | .free => true
  | _ => false

/-- The entry is QUARANTINED, with either end cause (R109). -/
def Entry.isQuarantined : Entry → Bool
  | .quarantined _ _ => true
  | _ => false

/-- The transaction of an ACTIVE or EXPIRING entry, which is resident (R100). -/
def Entry.resident : Entry → Option Flight
  | .active t _ => some t
  | .expiring t _ => some t
  | .free => none
  | .quarantined _ _ => none

/-- The lowest FREE entry (R98). -/
def State.firstFree (s : State) : Option EntryId := allEntries.find? fun n => s.table[n].isFree

/-- The quarantine count (R109). -/
def State.quarantineCount (s : State) : Nat := allEntries.countP fun n => s.table[n].isQuarantined

/-- The downstream port can take a request: it is ready and DRST# and RESET# are deasserted (R15, R92). -/
def State.portOpen (s : State) : Bool := s.pins.downReady && !s.pins.drst && !s.pins.reset

/-! ### Issue eligibility (R55, R91, R92) -/

/-- The stream's head is budget-eligible (R55). -/
def State.budgetOk (s : State) (k : StreamId) : Bool :=
  s.isProtected k || 0 ≤ s.accounts[k].balance || s.cfg.regime == .draining

/-- The stream is eligible for a grant (R91). -/
def State.eligible (s : State) (k : StreamId) : Bool :=
  s.cfg.regime != .pass &&
    match s.queueHead k with
    | some h => h.guards == 0 && s.budgetOk k
    | none => false

/-- Streams in ascending order from the one after `k`, wrapping, and ending with `k` itself (R94, R95). -/
def rotationAfter (k : StreamId) : List StreamId := allStreams.map fun i => k + 1 + i

/-- The PROTECTED stream that a grant goes to, if any is eligible (R94). -/
def State.nextProtected (s : State) : Option StreamId :=
  (rotationAfter s.arb.lastProtected).find? fun k => s.isProtected k && s.eligible k

/-- The current stream keeps its turn (R95, step 1), judged at the grant alone: a current stream that was ineligible and is eligible
again, with no weighted grant between, resumes its turn with the grants left. DEDUCED (log 24), for R95 says too that a turn ends
when the stream becomes ineligible and that its left-over grants are lost. -/
def State.turnRunning (s : State) : Bool :=
  !s.isProtected s.arb.current && s.eligible s.arb.current && 0 < s.arb.grantsLeft

/-- The PACED or BULK stream whose turn begins, if any is eligible (R95, step 2). -/
def State.nextWeighted (s : State) : Option StreamId :=
  (rotationAfter s.arb.current).find? fun k => !s.isProtected k && s.eligible k

/-- The stream that the next grant goes to, with the arbiter's values after it (R94, R95). -/
def State.grant (s : State) : Option (StreamId × Arbiter) :=
  match s.nextProtected with
  | some k => some (k, { s.arb with lastProtected := k })
  | none =>
    if s.turnRunning then some (s.arb.current, { s.arb with grantsLeft := s.arb.grantsLeft - 1 })
    else s.nextWeighted.map fun k => (k, { s.arb with current := k, grantsLeft := (s.record k).weight.toNat - 1 })

/-! ### Drains (R82, R84) -/

/-- The stream is drained: no slot, and no ACTIVE or EXPIRING entry (R84). -/
def State.drained (s : State) (k : StreamId) : Bool :=
  s.used k == 0 && allEntries.all fun n =>
    match s.table[n].resident with
    | some t => t.stream != some k
    | none => true

/-- The slot holds a PENDING command of this code. -/
def State.pendingCode (s : State) (code : Byte) : Bool := s.cfg.slot.state == .pending && s.cfg.slot.code == code

/-- The RETIRING stream of a PENDING RETIRE (R84). -/
def State.retiringStream (s : State) : Option StreamId :=
  if s.pendingCode 0x04 then allStreams.find? fun k => s.cfg.streamState[k] == .retiring else none

end Sys2Proof.Machine
end

