-- ==== Sys2Proof/Machine/Flags.lean ====
section
/-! DEFINITION. Statuses, flags and levels: the alarm causes and how they are raised and cleared, the ALERT# level, the starved
flags, the QUARANTINE crossing, and what a watch transition does to a status. -/

namespace Sys2Proof.Machine

/-! ### Causes (R159, R207) -/

/-- The per-stream causes. -/
inductive StreamCause where
  | rateHigh
  | rateLow
  | latency
  | targetMiss
  | stale
  | denied
  deriving DecidableEq, Repr

/-- The global causes. -/
inductive GlobalCause where
  | hot
  | lost
  | orphan
  | quarantine
  | pool
  | protocol
  | command
  deriving DecidableEq, Repr

/-- The bit of a per-stream cause in a status, mask or cause-set byte (R206, R207). -/
def StreamCause.bit : StreamCause → BitVec 6
  | .rateHigh => 0x01
  | .rateLow => 0x02
  | .latency => 0x04
  | .targetMiss => 0x08
  | .stale => 0x10
  | .denied => 0x20

/-- The bit of a global cause (R206, R207). -/
def GlobalCause.bit : GlobalCause → BitVec 7
  | .hot => 0x01
  | .lost => 0x02
  | .orphan => 0x04
  | .quarantine => 0x08
  | .pool => 0x10
  | .protocol => 0x20
  | .command => 0x40

/-! ### Raising and clearing (R159, R160, R161) -/

/-- The alarm unit with bits of a stream's status SET. -/
def Alarm.set (a : Alarm) (k : StreamId) (bits : BitVec 6) : Alarm :=
  { a with status := modAt a.status k fun v => v ||| bits }

/-- A block raises a per-stream event cause (R160). -/
def raiseStream (k : StreamId) (c : StreamCause) (s : State) : State := { s with alm := s.alm.set k c.bit }

/-- A block raises a global event cause (R161). -/
def raiseGlobal (c : GlobalCause) (s : State) : State :=
  { s with alm := { s.alm with globalStatus := s.alm.globalStatus ||| c.bit } }

/-! ### ALERT# (R167) -/

/-- ALERT# is driven low exactly when the alert hold is OFF and at least one SET status is OPEN (R167). -/
def Alarm.driven (a : Alarm) : Bool :=
  !a.hold && (a.globalStatus &&& ~~~a.globalMask != 0 || allStreams.any fun k => a.status[k] &&& ~~~a.mask[k] != 0)

/-! ### Watch transitions (R162) -/

/-- What a transition of a watch item to TRIPPED or to CLEAR does to a stream's status, at the bit of its cause (R162). -/
def passTransition (m : WatchMode) (tripped : Bool) (c : StreamCause) (v : BitVec 6) : BitVec 6 :=
  match tripped, m with
  | true, _ => v ||| c.bit
  | false, .level => v &&& ~~~c.bit
  | false, .trip => v
  | false, .both => v ||| c.bit

/-- A change of an item is a transition and is passed; no change passes nothing (R135). -/
def passChange (m : WatchMode) (before after : Bool) (c : StreamCause) (v : BitVec 6) : BitVec 6 :=
  if before = after then v else passTransition m after c v

/-- The transitions of a stream's three items are passed under the modes of its record (R135). -/
def passWatch (r : StreamRecord) (before after : Watch) (v : BitVec 6) : BitVec 6 :=
  passChange (watchModeOf r.latencyMode) before.latency after.latency .latency
    (passChange (watchModeOf r.rateMode) before.low after.low .rateLow
      (passChange (watchModeOf r.rateMode) before.high after.high .rateHigh v))

/-- The watch causes of a stream whose mode is LEVEL, which ACK leaves as they stand (R170). -/
def levelBits (r : StreamRecord) : BitVec 6 :=
  (if watchModeOf r.rateMode = .level then StreamCause.rateHigh.bit ||| StreamCause.rateLow.bit else 0) |||
    (if watchModeOf r.latencyMode = .level then StreamCause.latency.bit else 0)

/-! ### Starved flags (R56) -/

/-- The conditions under which a stream's starved flag is set (R56). -/
def State.starving (s : State) (k : StreamId) : Bool :=
  s.cfg.regime == .regulate && !s.isProtected k && s.accounts[k].balance < 0 && s.portOpen && s.firstFree.isSome &&
    match s.queueHead k with
    | some h => h.guards == 0
    | none => false

/-- Every stream whose conditions hold has its starved flag set (R56). -/
def markStarved (s : State) : State :=
  { s with accounts := mapAll s.accounts fun k a => if s.starving k then { a with starved := true } else a }

/-- Every starved flag is cleared (R57). -/
def clearStarved (accounts : Vector Account 16) : Vector Account 16 := mapAll accounts fun _ a => { a with starved := false }

/-! ### QUARANTINE (R109) -/

/-- The quarantine count is at or above the threshold in force. -/
def State.quarantineHigh (s : State) : Bool := s.settings.quarantineThreshold.toNat ≤ s.quarantineCount

/-- QUARANTINE is raised at an event that took `before` to `after` when it crosses the threshold (R109). -/
def raiseQuarantine (before after : State) : State :=
  if !before.quarantineHigh && after.quarantineHigh then raiseGlobal .quarantine after else after

/-- What follows every event of the traffic, the timers and the commits: the QUARANTINE crossing and the starved flags. -/
def finish (before after : State) : State := markStarved (raiseQuarantine before after)

/-- An event of the device: nothing happens while RESET# is asserted (R25, R114, R116). -/
def event (f : State → State) (s : State) : State := if s.pins.reset then s else finish s (f s)

end Sys2Proof.Machine
end

