-- ==== Sys2Proof/Machine/Ops.lean ====
section
/-! DEFINITION. The shared operations on the state: counting, peaks, slots that free, offers and their acceptance, refusals,
placement, issue, expiry, drains and the change from DRAINING to PASS. -/

namespace Sys2Proof.Machine

/-! ### Counting (R120 to R124) -/

/-- A count raised by `n`, which stays at its top value (R120). -/
def satAdd (top a n : Nat) : Nat := min top (a + n)

/-- A 32-bit count raised by `n`. -/
def raiseCount (a n : Nat) : Nat := satAdd Config.countTop a n

/-- An event that counts to a stream, or to none, and globally (R120). -/
def countTo (k : Option StreamId) (f : Acc → Acc) (s : State) : State :=
  { s with mon := { s.mon with
      acc := match k with
        | some k => modAt s.mon.acc k f
        | none => s.mon.acc
      gacc := f s.mon.gacc } }

/-- One issue (R121). -/
def Acc.issue (kind : Kind) (bytes : Nat) (a : Acc) : Acc :=
  { a with counts := { a.counts with
      bytes := raiseCount a.counts.bytes bytes
      reads := match kind with
        | .read => raiseCount a.counts.reads 1
        | .write => a.counts.reads
      writes := match kind with
        | .read => a.counts.writes
        | .write => raiseCount a.counts.writes 1 } }

/-- One completion (R122). -/
def Acc.completion (latency : Nat) (outcome : MemOutcome) (a : Acc) : Acc :=
  { counts := { a.counts with
      completions := raiseCount a.counts.completions 1
      latencyMax := max a.counts.latencyMax latency
      memfaults := match outcome with
        | .okay => a.counts.memfaults
        | .memfault => raiseCount a.counts.memfaults 1 }
    latencySum := satAdd Config.latencySumTop a.latencySum latency }

/-- One refusal for a reason that counts to a stream (R123). -/
def Acc.refusal (r : Reason) (a : Acc) : Acc :=
  match r with
  | .window => { a with counts := { a.counts with window := raiseCount a.counts.window 1 } }
  | .full => { a with counts := { a.counts with full := raiseCount a.counts.full 1 } }
  | .stale => { a with counts := { a.counts with stale := raiseCount a.counts.stale 1 } }
  | .retired => { a with counts := { a.counts with retired := raiseCount a.counts.retired 1 } }
  | .span => a
  | .duplicate => a

/-- One LOST (R124). -/
def Acc.lost (a : Acc) : Acc := { a with counts := { a.counts with lost := raiseCount a.counts.lost 1 } }
/-- One late response (R124). -/
def Acc.late (a : Acc) : Acc := { a with counts := { a.counts with late := raiseCount a.counts.late 1 } }
/-- One reset-drain response (R124). -/
def Acc.drain (a : Acc) : Acc := { a with counts := { a.counts with drain := raiseCount a.counts.drain 1 } }
/-- A peak offered an occupancy before and after a change (R86). -/
def Acc.offerPeak (before after : Nat) (a : Acc) : Acc :=
  { a with counts := { a.counts with peak := max a.counts.peak (max before after) } }

/-- The decision of a refusal is counted (R123): SPAN and DUPLICATE globally, the others to their stream and globally. -/
def countRefusal (r : Reason) (k : Option StreamId) (s : State) : State :=
  match r with
  | .span => { s with mon := { s.mon with span := raiseCount s.mon.span 1 } }
  | .duplicate => { s with mon := { s.mon with duplicate := raiseCount s.mon.duplicate 1 } }
  | .window | .full | .stale | .retired => countTo k (Acc.refusal r) s

/-- The peaks take the occupancies before and after a change of the pool; a stream whose occupancy did not change is not
touched (R86). -/
def notePeaks (before after : List Held) (m : Monitor) : Monitor :=
  { m with
    acc := mapAll m.acc fun k a =>
      if usedIn before k = usedIn after k then a else a.offerPeak (usedIn before k) (usedIn after k)
    gacc := if before.length = after.length then m.gacc else m.gacc.offerPeak before.length after.length }

/-- The pool changes, and the peaks with it (R66, R86). -/
def setPool (pool : List Held) (s : State) : State := { s with pool := pool, mon := notePeaks s.pool pool s.mon }

/-! ### Commands that receive a result (R169, R181) -/

/-- The command slot receives a result, which raises COMMAND (R169). -/
def finishCommand (st : SlotState) (r : Result) (d : Detail) (s : State) : State :=
  raiseGlobal .command { s with cfg := { s.cfg with slot := { s.cfg.slot with state := st, result := r, detail := d } } }

/-! ### Placement (R66) -/

/-- A request takes a free slot of a stream: the next acceptance number, the present time, its guard count; the entry stage
becomes EMPTY (R66). -/
def place (req : Request) (k : StreamId) (s : State) : State :=
  setPool (s.pool ++ [{ req := req, stream := k, acceptNo := s.acceptCtr, placedAt := s.now,
                        guards := guardCount s.pool req k, state := .waiting }])
    { s with acceptCtr := s.acceptCtr + 1, stage := .empty }

/-- The entry stage repeats its placement test when a slot frees (R12, R69). -/
def retestSlot (s : State) : State :=
  match s.stage with
  | .waitSlot req _ k _ => if s.placementOk k then place req k s else s
  | .empty | .waitRefusal _ _ _ _ | .waitDrain _ _ | .waitIssue _ _ => s

/-! ### Issue (R98) -/

/-- A request takes an in-flight entry and is sent downstream with the entry number as its tag (R98, steps 4 to 6). -/
def sendDown (n : EntryId) (req : Request) (k : Option StreamId) (s : State) : State :=
  countTo k (Acc.issue req.kind (bytesOf req))
    { s with
      table := putAt s.table n (.active { pair := pairOf req, stream := k, kind := req.kind, beats := req.beats,
                                          issueTime := s.now } none)
      ports := { s.ports with downSent := s.ports.downSent ++
        [{ initiator := req.initiator, tag := n, kind := req.kind, address := req.address, beats := req.beats,
           data := req.data }] } }

/-- The PASS path: the request is issued at once if the port can take it and an entry is FREE, else it waits (R15). -/
def passPath (req : Request) (registered : Bool) (s : State) : State :=
  match s.portOpen, s.firstFree with
  | true, some n => sendDown n req none { s with stage := .empty }
  | _, _ => { s with stage := .waitIssue req registered }

/-- The charge of an issue (R54): the balance of a PACED or BULK stream in REGULATE is lowered by the byte count. -/
def charge (k : StreamId) (bytes : Nat) (s : State) : State :=
  if s.cfg.regime = .regulate ∧ s.isProtected k = false then
    { s with accounts := modAt s.accounts k fun a => { a with balance := a.balance - bytes } }
  else s

/-! ### The pool empties, a stream drains (R82, R84, R191) -/

/-- In DRAINING the regime becomes PASS when the pool is empty, and a request in WAIT_DRAIN continues on the PASS path (R82). -/
def checkPoolEmpty (s : State) : State :=
  if s.cfg.regime = .draining ∧ s.pool = [] then
    let s' := { s with cfg := { s.cfg with regime := .pass } }
    match s.stage with
    | .waitDrain req reg => passPath req reg s'
    | .empty | .waitSlot _ _ _ _ | .waitRefusal _ _ _ _ | .waitIssue _ _ => s'
  else s

/-- A copy of the configuration after the retirement of a stream: its state request OFF, the valid windows that name it
invalid, and the miss policy DENY when it is the miss stream (R40, R191). -/
def retireInCopy (k : StreamId) (c : Settings) : Settings :=
  { global := if c.global.missStream.toNat = k.val then { c.global with missPolicy := 1 } else c.global
    streams := modAt c.streams k fun r => { r with stateRequest := 0 }
    windows := mapAll c.windows fun _ w => if w.stream.toNat = k.val then { w with valid := false } else w }

/-- The retirement of a stream completes (R191). -/
def completeRetirement (k : StreamId) (s : State) : State :=
  finishCommand .done .ok s.cfg.slot.detail
    { s with cfg := { s.cfg with
        streamState := putAt s.cfg.streamState k .off
        active := retireInCopy k s.cfg.active
        staged := retireInCopy k s.cfg.staged } }

/-- The admission unit reports a RETIRING stream drained at the event that drains it (R84). -/
def checkDrained (s : State) : State :=
  match s.retiringStream with
  | some k => if s.drained k then completeRetirement k s else s
  | none => s

/-! ### Offers to the local response list (R21, R22) -/

/-- The acceptance of a LOST offer changes its entry: EXPIRING(TIMEOUT) becomes QUARANTINED(TIMEOUT), EXPIRING(DRESET) becomes
FREE; LOST is counted and raised (R107, R111). -/
def acceptLost (n : EntryId) (s : State) : State :=
  match s.table[n] with
  | .expiring t .timeout =>
    checkDrained (raiseGlobal .lost (countTo t.stream Acc.lost { s with table := putAt s.table n (.quarantined t .timeout) }))
  | .expiring t .dreset =>
    checkDrained (raiseGlobal .lost (countTo t.stream Acc.lost { s with table := putAt s.table n .free }))
  | .free | .active _ _ | .quarantined _ _ => s

/-- The acceptance of a STALE offer: the EXPIRED transaction leaves the pool and its slot frees (R74). -/
def acceptStale (p : TagPair) (s : State) : State :=
  checkDrained (checkPoolEmpty (retestSlot (setPool (dropExpired p s.pool) s)))

/-- An offer is accepted into the list, which completes the offerer's side (R22). -/
def acceptOffer (o : Offer) (s : State) : State :=
  let s := { s with localList := s.localList ++ [o.entry] }
  match o.offerer with
  | .stage => { s with stage := .empty }
  | .held p => acceptStale p s
  | .inflight n => acceptLost n s

/-- An offer is accepted at once when a place is free, and otherwise joins the waiting-offer order (R21). -/
def makeOffer (o : Offer) (s : State) : State :=
  if s.localList.length < Config.listPlaces then acceptOffer o s else { s with offers := s.offers ++ [o] }

/-- The oldest waiting offer is accepted when a place is free (R21). -/
def acceptOldest (s : State) : State :=
  match s.offers with
  | [] => s
  | o :: rest => if s.localList.length < Config.listPlaces then acceptOffer o { s with offers := rest } else s

/-! ### Refusals (R14) -/

/-- The causes a refusal raises (R160, R161): PROTOCOL for SPAN and DUPLICATE, DENIED of its stream for WINDOW, FULL and
RETIRED, and POOL for FULL. -/
def raiseRefusal (r : Reason) (k : Option StreamId) (s : State) : State :=
  match r, k with
  | .span, _ | .duplicate, _ => raiseGlobal .protocol s
  | .full, some k => raiseGlobal .pool (raiseStream k .denied s)
  | .window, some k | .retired, some k => raiseStream k .denied s
  | .stale, some k => raiseStream k .stale s
  | .full, none => raiseGlobal .pool s
  | .window, none | .retired, none | .stale, none => s

/-- The entry stage decides a refusal: it is counted and raised, and offered to the local response list; the stage holds the
request in WAIT_REFUSAL until the offer is accepted (R14). -/
def refuse (req : Request) (registered : Bool) (r : Reason) (k : Option StreamId) (s : State) : State :=
  makeOffer { offerer := .stage, entry := { pair := pairOf req, outcome := .denied r, registered := registered } }
    { raiseRefusal r k (countRefusal r k s) with stage := .waitRefusal req registered k r }

/-- Checks 3 to 5 of R7 against the active configuration: classification, stream state, placement (R10, R11). -/
def regulatedChecks (req : Request) (registered : Bool) (s : State) : State :=
  let (k, ok) := classify s.cfg.active req
  if !ok then refuse req registered .window (some k) s
  else if s.cfg.streamState[k] = .retiring then refuse req registered .retired (some k) s
  else if s.placementOk k then place req k s
  else if policyRefuse (s.record k) then refuse req registered .full (some k) s
  else raiseGlobal .pool { s with stage := .waitSlot req registered k s.now }

/-! ### Expiry (R72, R73, R105, R106) -/

/-- The hold timer of a WAITING transaction has reached its limit (R72). -/
def State.holdDue (s : State) (slack : Nat) (h : Held) : Bool :=
  h.isWaiting && (s.record h.stream).holdLimit.toNat != 0 &&
    h.placedAt + (s.record h.stream).holdLimit.toNat * Config.usTicks + slack ≤ s.now

/-- One held transaction expires (R73): it stays in the pool EXPIRED, its guards are released, STALE is counted and raised,
and its STALE refusal is offered. -/
def expireHeld (s : State) (h : Held) : State :=
  makeOffer { offerer := .held h.pair, entry := { pair := h.pair, outcome := .denied .stale, registered := true } }
    (raiseRefusal .stale (some h.stream) (countRefusal .stale (some h.stream)
      { s with pool := leaveQueue (fun h => [{ h with state := .expired }]) h.pair s.pool }))

/-- The response timer of an ACTIVE entry that holds no response has reached the timeout (R105). -/
def State.responseDue (s : State) (slack : Nat) (n : EntryId) : Bool :=
  match s.table[n] with
  | .active t none => t.issueTime + s.settings.responseTimeout.toNat * Config.usTicks + slack ≤ s.now
  | .active _ (some _) | .free | .expiring _ _ | .quarantined _ _ => false

/-- The LOST offer of an in-flight entry (R106). -/
def lostOffer (n : EntryId) (t : Flight) : Offer :=
  { offerer := .inflight n, entry := { pair := t.pair, outcome := .lost, registered := true } }

/-- One ACTIVE entry times out: it becomes EXPIRING(TIMEOUT) and a LOST response is offered (R106). -/
def expireEntry (s : State) (n : EntryId) : State :=
  match s.table[n] with
  | .active t _ => makeOffer (lostOffer n t) { s with table := putAt s.table n (.expiring t .timeout) }
  | .free | .expiring _ _ | .quarantined _ _ => s

/-! ### The epoch timer and the rates (R118, R139) -/

/-- The start value of a stream's effective rate: its configured rate (R139). -/
def startRate (r : StreamRecord) : Nat := r.configured.toNat

/-- An epoch begins at `start` with the length in the active configuration; its flag follows the regime (R117 to R119). -/
def beginEpoch (start : Nat) (s : State) : State :=
  { s with mon := { s.mon with
      epochStart := start
      epochLen := s.settings.epochLength.toNat
      epochEnd := start + s.settings.epochLength.toNat * Config.epochTicks
      regulated := s.cfg.regime == .regulate } }

/-- Every live accumulator is zeroed (R120). -/
def Monitor.zeroed (m : Monitor) : Monitor :=
  { m with acc := Vector.replicate 16 Acc.zero, gacc := Acc.zero, span := 0, duplicate := 0, orphan := 0, discard := 0 }

end Sys2Proof.Machine
end

