-- ==== Sys2Proof/Machine/Downstream.lean ====
section
/-! DEFINITION. The commands of the issue arbiter, the downstream port and the hold pool: ISSUE, RESPONSE_ARRIVAL,
RESPONSE_TIMEOUT, HOLD_TIMEOUT, REFILL_TICK, DOWNSTREAM_PORT_READY. -/

namespace Sys2Proof.Machine

/-- The head of a granted stream leaves the pool and goes to a FREE entry (R81, R98): it is charged and sent, its slot frees,
and the pool may become empty. -/
def issueHead (h : Held) (arb : Arbiter) (n : EntryId) (s : State) : State :=
  checkPoolEmpty
    (retestSlot
      (sendDown n h.req (some h.stream)
        (charge h.stream (bytesOf h.req)
          (setPool (leaveQueue (fun _ => []) h.pair s.pool) { s with arb := arb }))))

/-- One grant and its issue, when the conditions of R92 hold. -/
def issueGrant (s : State) : State :=
  match s.portOpen, s.firstFree, s.grant with
  | true, some n, some (k, arb) =>
    match s.queueHead k with
    | some h => issueHead h arb n s
    | none => s
  | _, _, _ => s

/-- ISSUE (R98). -/
def execIssue (s : State) : Host.Outcome State Fault Refusal := .next (event issueGrant s)

/-- The latency of a transaction at the arrival of its response (R103): arrival less issue less the offset, within 0..65,535. -/
def measureLatency (t : Flight) (s : State) : Nat :=
  min Config.latencyTop (((s.now : Int) - (t.issueTime : Int) - s.settings.latencyOffset.toInt).toNat)

/-- A matched response is held for delivery with its latency (R101). -/
def holdResponse (n : EntryId) (t : Flight) (r : MemResponse) (s : State) : State :=
  { s with
    table := putAt s.table n (.active t (some (measureLatency t s)))
    downResp := some { entry := n, outcome := r.outcome, data := r.data } }

/-- An orphan response is counted and raises ORPHAN (R104). -/
def orphan (s : State) : State :=
  raiseGlobal .orphan { s with mon := { s.mon with orphan := raiseCount s.mon.orphan 1 } }

/-- The offers that remain when those of an entry are withdrawn (R21). -/
def withdrawLost (n : EntryId) (offers : List Offer) : List Offer := offers.filter fun o => o.offerer != .inflight n

/-- A response arrives for an entry (R101, R104). -/
def arriveAt (n : EntryId) (r : MemResponse) (s : State) : State :=
  match s.table[n] with
  | .active t none => holdResponse n t r s
  | .active _ (some _) => s
  | .expiring t .timeout => holdResponse n t r { s with offers := withdrawLost n s.offers }
  | .expiring _ .dreset => orphan s
  | .quarantined t .timeout => countTo t.stream Acc.late { s with table := putAt s.table n .free }
  | .quarantined t .ureset => countTo t.stream Acc.drain { s with table := putAt s.table n .free }
  | .free => orphan s

/-- A response arrives at the downstream port (R101). The port accepts none while DRST# is asserted (R112) and can be offered
none while one waits for delivery (R3). A tag of 48 to 63 names no entry (R3). -/
def arrive (r : MemResponse) (s : State) : State :=
  if s.pins.drst ∨ s.downResp.isSome then s
  else if h : r.tag.val < 48 then arriveAt ⟨r.tag.val, h⟩ r s else orphan s

/-- RESPONSE_ARRIVAL (R101). -/
def execResponseArrival (r : MemResponse) (s : State) : Host.Outcome State Fault Refusal := .next (event (arrive r) s)

/-- The response timers of these entries expire in one event, their offers in ascending entry number (R106). An entry whose
timer has not reached the timeout is not touched (R105). -/
def expireResponses (who : List EntryId) (s : State) : State :=
  (allEntries.filter fun n => decide (n ∈ who) && s.responseDue 0 n).foldl expireEntry s

/-- RESPONSE_TIMEOUT (R106). -/
def execResponseTimeout (who : List EntryId) (s : State) : Host.Outcome State Fault Refusal :=
  .next (event (expireResponses who) s)

/-- The hold timers of these transactions expire in one event, their offers in acceptance order (R73). A transaction whose
timer has not reached its limit is not touched (R72). -/
def expireHolds (who : List TagPair) (s : State) : State :=
  (s.pool.filter fun h => decide (h.pair ∈ who) && s.holdDue 0 h).foldl expireHeld s

/-- HOLD_TIMEOUT (R73). -/
def execHoldTimeout (who : List TagPair) (s : State) : Host.Outcome State Fault Refusal := .next (event (expireHolds who) s)

/-- A stream is refilled at a tick: PACED or BULK, and ON or RETIRING (R52). -/
def State.refilled (s : State) (k : StreamId) : Bool :=
  s.cfg.regime == .regulate && !s.isProtected k && s.cfg.streamState[k] != .off

/-- The account after a refill: the effective rate is added, up to the ceiling (R52). -/
def refill (rate : Nat) (ceiling : Nat) (a : Account) : Account := { a with balance := min (a.balance + rate) ceiling }

/-- A refill tick: every refilled stream gains its effective rate, and the next tick comes one period later (R50, R52). It comes
no earlier than its time. -/
def refillTick (s : State) : State :=
  if s.refillDue ≤ s.now then
    { s with
      accounts := mapAll s.accounts fun k a =>
        if s.refilled k then refill s.gov.rate[k] (s.record k).ceiling.toNat a else a
      refillDue := s.refillDue + s.settings.refillPeriod.toNat * Config.usTicks }
  else s

/-- REFILL_TICK (R52). -/
def execRefillTick (s : State) : Host.Outcome State Fault Refusal := .next (event refillTick s)

/-- The memory controller's readiness changes; it is an input level, so RESET# does not hold it back (R92). -/
def setReady (ready : Bool) (s : State) : State := { s with pins := { s.pins with downReady := ready } }

/-- DOWNSTREAM_PORT_READY (R92). -/
def execDownstreamPortReady (ready : Bool) (s : State) : Host.Outcome State Fault Refusal :=
  .next (finish s (setReady ready s))

end Sys2Proof.Machine
end

