-- ==== Sys2Proof/Machine/Epoch.lean ====
section
/-! DEFINITION. The commands of the epoch boundary: PUBLICATION (the monitor), ADJUSTMENT (the governor), COMMIT_EVENT (the
configuration unit), and RETIREMENT_COMPLETION. -/

namespace Sys2Proof.Machine

/-! ### Publication (R126 to R131) -/

/-- The mean latency of a set of accumulators: absent when there were no completions (R129). The quotient is not capped where the
completions stand at their top value and it passes the bounds that R129 states: DESIGN CHOICE (log 25). -/
def Acc.mean (a : Acc) : Option Nat :=
  if a.counts.completions = 0 then none else some (a.latencySum / a.counts.completions)

/-- The stream record that a publication makes: counts in a regulated publication only, the snapshot always (R127, R130). -/
def streamReport (regulated : Bool) (a : Acc) (rate : Nat) (acc : Account) : StreamReport :=
  { counts := if regulated then a.counts else Counts.zero
    mean := if regulated then a.mean else none
    effRate := rate
    balance := acc.balance
    starved := acc.starved }

/-- The report of the ending epoch replaces the published one (R126, step 1). -/
def publishReport (s : State) : State :=
  { s with mon := { s.mon with
      reports := mapAll s.mon.acc fun k a => streamReport s.mon.regulated a s.gov.rate[k] s.accounts[k]
      greport := { regulated := s.mon.regulated, epochLength := s.mon.epochLen, counts := s.mon.gacc.counts,
                   mean := s.mon.gacc.mean, span := s.mon.span, duplicate := s.mon.duplicate, orphan := s.mon.orphan,
                   discard := s.mon.discard } } }

/-- The rate watch's high condition (R133). -/
def rateHighTripped (r : StreamRecord) (bytes : Nat) : Bool := r.rateHigh.toNat != 0 && r.rateHigh.toNat * 256 < bytes

/-- The rate watch's low condition (R133). -/
def rateLowTripped (r : StreamRecord) (bytes : Nat) : Bool := r.rateLow.toNat != 0 && bytes < r.rateLow.toNat * 256

/-- The latency watch's state and fault counter after an evaluation (R134). -/
def judgeLatency (r : StreamRecord) (mean : Option Nat) (tripped : Bool) (fault : Nat) : Bool × Nat :=
  if r.latencyOver.toNat = 0 then (false, 0)
  else match mean, tripped with
    | none, _ => (tripped, fault)
    | some m, false =>
      if r.latencyOver.toNat < m then
        if r.faultCount.toNat ≤ fault + 1 then (true, 0) else (false, fault + 1)
      else (false, 0)
    | some m, true => if m < r.latencyRelease.toNat then (false, 0) else (true, fault)

/-- The watches of a stream after an evaluation (R132 to R134): an OFF stream's are CLEAR. -/
def judgeWatch (r : StreamRecord) (st : StreamState) (rep : StreamReport) (w : Watch) : Watch :=
  match st with
  | .off => Watch.clear
  | .on | .retiring =>
    { high := rateHighTripped r rep.counts.bytes
      low := rateLowTripped r rep.counts.bytes
      latency := (judgeLatency r rep.mean w.latency w.fault).1
      fault := (judgeLatency r rep.mean w.latency w.fault).2 }

/-- New watches for every stream, with the transitions passed to the alarm unit under the modes in force (R135). -/
def setWatches (f : StreamId → Watch → Watch) (s : State) : State :=
  { s with
    mon := { s.mon with watches := mapAll s.mon.watches f }
    alm := { s.alm with
      status := mapAll s.alm.status fun k v => passWatch (s.record k) s.mon.watches[k] (f k s.mon.watches[k]) v } }

/-- In a regulated publication the watches are evaluated against the new report (R132). -/
def evaluateWatches (s : State) : State :=
  if s.mon.greport.regulated then
    setWatches (fun k w => judgeWatch (s.record k) s.cfg.streamState[k] s.mon.reports[k] w) s
  else s

/-- A boundary: the report is published, the accumulators and starved flags start afresh, the watches are evaluated, and the
next epoch begins (R117, R126). The governor's adjustment is due (R140). -/
def publish (s : State) : State :=
  if s.mon.epochEnd ≤ s.now then
    let s := evaluateWatches (publishReport s)
    beginEpoch s.mon.epochEnd
      { s with
        mon := { s.mon.zeroed with seq := s.mon.seq + 1, adjustDue := true }
        accounts := clearStarved s.accounts }
  else s

/-- PUBLICATION (R126). -/
def execPublication (s : State) : Host.Outcome State Fault Refusal := .next (event publish s)

/-! ### Adjustment (R140 to R151) -/

/-- The HOT filter counter after a sample (R147). -/
def sampleHot (hot : Bool) (counter : Nat) : Nat := if hot then min 4 (counter + 1) else 0

/-- The critical condition (R148). -/
def critical (g : GlobalSettings) (mean : Option Nat) : Bool :=
  match mean with
  | none => false
  | some m => g.criticalLimit.toNat != 0 && g.criticalLimit.toNat < m

/-- The critical release condition (R148). -/
def criticalRelease (g : GlobalSettings) (mean : Option Nat) : Bool :=
  match mean with
  | none => true
  | some m => g.criticalLimit.toNat == 0 || m ≤ g.criticalRelease.toNat

/-- The mean lies above the dead band (R143). -/
def aboveBand (g : GlobalSettings) (mean : Option Nat) : Bool :=
  match mean with
  | none => false
  | some m => g.cruiseTarget.toNat + g.cruiseTolerance.toNat < m

/-- The mean lies below the dead band, whose lower end is 0 when the tolerance exceeds the target (R143). -/
def belowBand (g : GlobalSettings) (mean : Option Nat) : Bool :=
  match mean with
  | none => false
  | some m => m < g.cruiseTarget.toNat - g.cruiseTolerance.toNat

/-- One step up, to at most the max rate (R142). -/
def stepUp (r : StreamRecord) (rate : Nat) : Nat := min (rate + r.step.toNat) r.maxRate.toNat
/-- One step down, to at least the floor (R142). -/
def stepDown (r : StreamRecord) (rate : Nat) : Nat := max (rate - r.step.toNat) r.floor.toNat

/-- The effective rate after a mode adjustment (R141 to R143). -/
def modeRate (g : GlobalSettings) (r : StreamRecord) (mean : Option Nat) (starved : Bool) (rate : Nat) : Nat :=
  match modeOf r with
  | .fixed => rate
  | .ramp => if starved then stepUp r rate else stepDown r rate
  | .cruise => if aboveBand g mean then stepDown r rate else if belowBand g mean then stepUp r rate else rate

/-- The adjustment is a target miss of a CRUISE stream: the mean is above the band and the rate is at its floor (R145). -/
def missesTarget (g : GlobalSettings) (r : StreamRecord) (mean : Option Nat) (rate : Nat) : Bool :=
  modeOf r == .cruise && aboveBand g mean && rate == r.floor.toNat

/-- The raise brings the counter to the target-miss count (R146). -/
def missReached (g : GlobalSettings) (counter : Nat) : Bool := g.missCount.toNat ≤ counter + 1

/-- The target-miss counter after a mode adjustment of an ON or RETIRING stream (R145, R146). -/
def missCounter (g : GlobalSettings) (r : StreamRecord) (mean : Option Nat) (rate counter : Nat) : Nat :=
  if missesTarget g r mean rate then
    if missReached g counter then 0 else counter + 1
  else if modeOf r = .cruise ∧ mean = none then counter
  else 0

/-- The mode adjustment of every stream, with TARGET_MISS raised where its counter reaches the count (R144 to R146). -/
def adjustModes (mean : Option Nat) (s : State) : State :=
  let g := s.settings
  { s with
    gov := { s.gov with
      rate := mapAll s.gov.rate fun k rate =>
        if s.cfg.streamState[k] = .off then rate else modeRate g (s.record k) mean s.mon.reports[k].starved rate
      miss := mapAll s.gov.miss fun k c =>
        if s.cfg.streamState[k] = .off then 0 else missCounter g (s.record k) mean s.gov.rate[k] c }
    alm := { s.alm with
      status := mapAll s.alm.status fun k v =>
        if s.cfg.streamState[k] ≠ .off ∧ missesTarget g (s.record k) mean s.gov.rate[k] ∧ missReached g s.gov.miss[k] then
          v ||| StreamCause.targetMiss.bit
        else v } }

/-- The rate that EMERGENCY gives a class: BULK 0, PACED its floor, PROTECTED kept (R149). -/
def overrideRate (r : StreamRecord) (rate : Nat) : Nat :=
  match classOf r with
  | .prot => rate
  | .paced => r.floor.toNat
  | .bulk => 0

/-- The governor enters EMERGENCY and reports HOT (R149). -/
def enterEmergency (s : State) : State :=
  raiseGlobal .hot { s with gov := { s.gov with
    pressure := .emergency, rate := mapAll s.gov.rate fun k rate => overrideRate (s.record k) rate } }

/-- The rate that the exit from EMERGENCY gives a stream (R151). -/
def exitRate (r : StreamRecord) : Nat :=
  match modeOf r with
  | .fixed => r.configured.toNat
  | .ramp | .cruise => r.floor.toNat

/-- The governor returns to NORMAL (R151). -/
def exitEmergency (s : State) : State :=
  { s with gov := { s.gov with pressure := .normal, rate := mapAll s.gov.rate fun k _ => exitRate (s.record k) } }

/-- The conditions of an acting adjustment (R140). -/
def State.adjustActs (s : State) : Bool := s.mon.greport.regulated && s.cfg.regime == .regulate

/-- An acting adjustment (R140): HOT is sampled, the pressure state judged, and in NORMAL the modes adjusted. -/
def actAdjustment (hot : Bool) (s : State) : State :=
  let mean := s.mon.greport.mean
  let s := { s with gov := { s.gov with hotFilter := sampleHot hot s.gov.hotFilter } }
  match s.gov.pressure with
  | .normal =>
    if s.settings.hotFilter.toNat ≤ s.gov.hotFilter ∨ critical s.settings mean then enterEmergency s
    else adjustModes mean s
  | .emergency => if hot = false ∧ criticalRelease s.settings mean then exitEmergency s else s

/-- The adjustment after a publication (R140). -/
def adjust (hot : Bool) (s : State) : State :=
  if s.mon.adjustDue then
    let s := { s with pins := { s.pins with hot := hot }, mon := { s.mon with adjustDue := false } }
    if s.adjustActs then actAdjustment hot s else s
  else s

/-- ADJUSTMENT (R140). -/
def execAdjustment (hot : Bool) (s : State) : Host.Outcome State Fault Refusal := .next (event (adjust hot) s)

/-! ### The commit event (R185 to R187) -/

/-- The boundary checks in their order, with the place at which the first failing one fails (R186). -/
def boundaryFailure (s : State) : Option Detail :=
  let c := s.cfg.staged
  ((allStreams.find? fun k => c.streams[k].maxSlots.toNat < s.used k).map .stream).or
    (((allStreams.find? fun k =>
        s.cfg.streamState[k] == .on && !requestsOn c.streams[k] && 0 < s.used k).map .stream).or
      (globalPlace (sharedInUse c s.pool ≤ sharedSize c)))

/-- The regime after a commit (R178). -/
def regimeAfter (before : Regime) (request : Bool) (poolEmpty : Bool) : Regime :=
  match request, before with
  | true, _ => .regulate
  | false, .pass => .pass
  | false, .regulate => if poolEmpty then .pass else .draining
  | false, .draining => .draining

/-- What a commit changes in the regime: it enters REGULATE, or leaves it. -/
def enters (before after : Regime) : Bool := before != .regulate && after == .regulate
/-- See `enters`. -/
def leaves (before after : Regime) : Bool := before == .regulate && after != .regulate

/-- The account of a stream after a commit (R48, R57, R59, R60). -/
def commitAccount (before after : Regime) (wasOff : Bool) (old new : StreamRecord) (a : Account) : Account :=
  let c : Int := new.ceiling.toNat
  if classOf new = .prot then { balance := 0, starved := false }
  else if classOf old = .prot ∨ enters before after
      ∨ (before = .regulate ∧ after = .regulate ∧ wasOff ∧ requestsOn new) then { a with balance := c }
  else { a with balance := min a.balance c }

/-- A commit changes one of the fields that reset the rate (R153). -/
def rateFieldsChanged (old new : StreamRecord) : Bool :=
  old.mode != new.mode || old.configured != new.configured || old.floor != new.floor || old.maxRate != new.maxRate

/-- The effective rate of a stream after a commit that neither enters nor leaves REGULATE (R150, R153). -/
def commitRate (p : Pressure) (old new : StreamRecord) (rate : Nat) : Nat :=
  match p, classOf new with
  | .emergency, .bulk => 0
  | .emergency, .paced => new.floor.toNat
  | .emergency, .prot => if rateFieldsChanged old new ∨ classOf old ≠ .prot then startRate new else rate
  | .normal, _ => if rateFieldsChanged old new then startRate new else rate

/-- A commit changes a setting that zeroes every target-miss counter (R155). -/
def missSettingsChanged (old new : GlobalSettings) : Bool :=
  old.cruiseTarget != new.cruiseTarget || old.cruiseTolerance != new.cruiseTolerance || old.missCount != new.missCount

/-- The governor after a commit (R150, R152, R153, R155). -/
def commitGovernor (before after : Regime) (old new : Settings) (g : Governor) : Governor :=
  if enters before after || leaves before after then
    { rate := mapAll g.rate fun k _ => startRate new.streams[k]
      miss := Vector.replicate 16 0
      hotFilter := 0
      pressure := .normal }
  else
    { g with
      rate := mapAll g.rate fun k rate => commitRate g.pressure old.streams[k] new.streams[k] rate
      miss := mapAll g.miss fun k c =>
        if missSettingsChanged old.global new.global || rateFieldsChanged old.streams[k] new.streams[k] then 0 else c }

/-- A commit changes a setting of the rate watch (R136). -/
def rateWatchChanged (old new : StreamRecord) : Bool :=
  old.rateHigh != new.rateHigh || old.rateLow != new.rateLow || old.rateMode != new.rateMode

/-- A commit changes a setting of the latency watch (R136). -/
def latencyWatchChanged (old new : StreamRecord) : Bool :=
  old.latencyOver != new.latencyOver || old.latencyRelease != new.latencyRelease || old.faultCount != new.faultCount
    || old.latencyMode != new.latencyMode

/-- The watches of a stream after a commit (R136). -/
def commitWatch (old new : StreamRecord) (w : Watch) : Watch :=
  { high := w.high && !rateWatchChanged old new
    low := w.low && !rateWatchChanged old new
    latency := w.latency && !latencyWatchChanged old new
    fault := if latencyWatchChanged old new then 0 else w.fault }

/-- A commit into LEVEL leaves the watch statuses of that mode CLEAR (R163). -/
def commitStatus (old new : StreamRecord) (v : BitVec 6) : BitVec 6 :=
  v &&& ~~~((if old.rateMode ≠ new.rateMode ∧ watchModeOf new.rateMode = .level then
              StreamCause.rateHigh.bit ||| StreamCause.rateLow.bit else 0) |||
            (if old.latencyMode ≠ new.latencyMode ∧ watchModeOf new.latencyMode = .level then StreamCause.latency.bit else 0))

/-- The state a stream takes from its request (R187). -/
def requestedState (r : StreamRecord) : StreamState := if requestsOn r then .on else .off

/-- The settings, accounts, governor, watches, statuses, refill timer and regime after an applied commit (R187): everything
but the request in the entry stage, the held transactions, the in-flight entries, the epoch and the slot. `c` is the staged
copy and `after` the new regime. -/
def applySettings (c : Settings) (after : Regime) (s : State) : State :=
  let old := s.cfg.active
  let before := s.cfg.regime
  let s' := setWatches (fun k w => commitWatch old.streams[k] c.streams[k] w)
    { s with
      accounts := mapAll s.accounts fun k a =>
        commitAccount before after (s.cfg.streamState[k] == .off) old.streams[k] c.streams[k] a
      gov := commitGovernor before after old c s.gov
      refillDue := if old.global.refillPeriod = c.global.refillPeriod then s.refillDue
        else s.now + c.global.refillPeriod.toNat * Config.usTicks
      cfg := { s.cfg with
        active := c
        streamState := mapAll s.cfg.streamState fun k _ => requestedState c.streams[k]
        regime := after } }
  { s' with alm := { s'.alm with status := mapAll s'.alm.status fun k v => commitStatus old.streams[k] c.streams[k] v } }

/-- The epoch that begins at the boundary of an applied commit takes the new length and the new regime's flag when the
publication of that boundary has already been taken (R118, R119); otherwise the publication gives it both. -/
def commitEpoch (s : State) : State := if s.now < s.mon.epochEnd then beginEpoch s.mon.epochStart s else s

/-- The request in the entry stage after an applied commit that took the regime from `before` to the present one (R13, R16,
R17). -/
def reexamine (before : Regime) (s : State) : State :=
  match s.stage, before, s.cfg.regime with
  | .waitSlot req reg k _, .regulate, .regulate =>
    if s.cfg.streamState[k] = .off then refuse req reg .window (some k) s
    else if s.placementOk k then place req k s
    else if policyRefuse (s.record k) then refuse req reg .full (some k) s
    else s
  | .waitSlot req reg _ _, .regulate, .draining => { s with stage := .waitDrain req reg }
  | .waitSlot req reg _ _, .regulate, .pass => passPath req reg s
  | .waitIssue req reg, .pass, .regulate => regulatedChecks req reg s
  | .waitDrain req reg, .draining, .regulate => regulatedChecks req reg s
  | _, _, _ => s

/-- The held transactions whose waiting time already reaches a hold limit that the commit changed expire in the commit event,
in acceptance order (R72). `old` is the active copy before the commit. -/
def commitHolds (old : Settings) (s : State) : State :=
  (s.pool.filter fun h =>
    (old.streams[h.stream].holdLimit != (s.record h.stream).holdLimit) && s.holdDue 0 h).foldl expireHeld s

/-- The ACTIVE entries whose time since issue already reaches a response timeout that the commit changed expire in the commit
event, in ascending entry number (R105). -/
def commitTimeouts (old : Settings) (s : State) : State :=
  if old.global.responseTimeout = s.settings.responseTimeout then s
  else (allEntries.filter fun n => s.responseDue 0 n).foldl expireEntry s

/-- A COMMIT that passed its boundary checks is applied (R187). The entry stage's offer comes first, then the admission unit's,
then the downstream port's (R21). -/
def applyCommit (s : State) : State :=
  let after := regimeAfter s.cfg.regime (requestsRegulate s.cfg.staged.global) s.pool.isEmpty
  commitTimeouts s.cfg.active
    (commitHolds s.cfg.active
      (reexamine s.cfg.regime
        (finishCommand .done .ok .none
          (commitEpoch (applySettings s.cfg.staged after s)))))

/-- A PENDING COMMIT whose boundary has come (R185). -/
def State.commitDue (s : State) : Bool := s.pendingCode 0x01 && s.cfg.slot.judgeAt ≤ s.now

/-- The commit event: the boundary checks, then the application or the OCCUPIED refusal (R185 to R187). -/
def judgeCommit (s : State) : State :=
  if s.commitDue then
    match boundaryFailure s with
    | some d => finishCommand .refused .occupied d s
    | none => applyCommit s
  else s

/-- COMMIT_EVENT (R185). -/
def execCommitEvent (s : State) : Host.Outcome State Fault Refusal := .next (event judgeCommit s)

/-- RETIREMENT_COMPLETION (R191): the drain report of a RETIRING stream. -/
def execRetirementCompletion (s : State) : Host.Outcome State Fault Refusal := .next (event checkDrained s)

end Sys2Proof.Machine
end

