-- ==== Sys2Proof/Machine/Commands.lean ====
section
/-! DEFINITION. The commands of the command slot: COMMIT, REVERT, ACK, RETIRE, RESTART, CANCEL, and a code that names none. -/

namespace Sys2Proof.Machine

/-- The slot holds a PENDING command (R180). -/
def State.slotPending (s : State) : Bool := s.cfg.slot.state == .pending

/-- A command other than CANCEL that arrives while one is PENDING is refused BUSY: the result becomes BUSY and COMMAND is
raised; everything else stays (R169, R181). -/
def refuseBusy (s : State) : State :=
  raiseGlobal .command { s with cfg := { s.cfg with slot := { s.cfg.slot with result := .busy } } }

/-- A command is taken: the slot takes its code and the request argument fields, detail NONE and discarded-write count 0 (R181). -/
def takeCode (code : Byte) (s : State) : State :=
  { s with cfg := { s.cfg with slot :=
      { s.cfg.slot with code := code, args := s.cfg.reqArgs, detail := .none, discarded := 0 } } }

/-- The command that is taken becomes PENDING with result NONE (R183, R190). -/
def becomePending (s : State) : State :=
  { s with cfg := { s.cfg with slot :=
      { s.cfg.slot with state := .pending, result := .none, judgeAt := s.mon.epochEnd } } }

/-- A command other than CANCEL arrives: BUSY while one is PENDING, else taken and carried out (R181). -/
def arriveAs (code : Byte) (act : State → State) (s : State) : State :=
  if s.slotPending then refuseBusy s else act (takeCode code s)

/-! ### COMMIT and REVERT -/

/-- COMMIT is carried out: the static checks on the staged copy, then PENDING until the next boundary not yet taken (R183,
R185). -/
def actCommit (s : State) : State :=
  match staticFailure s.cfg.staged with
  | some (code, place) => finishCommand .refused code place s
  | none => becomePending s

/-- COMMIT arrives. -/
def takeCommit (s : State) : State := arriveAs 0x01 actCommit s

/-- REVERT is carried out: the active copy is copied into the staged copy (R188). -/
def actRevert (s : State) : State :=
  finishCommand .done .ok .none { s with cfg := { s.cfg with staged := s.cfg.active } }

/-- REVERT arrives. -/
def takeRevert (s : State) : State := arriveAs 0x02 actRevert s

/-! ### ACK (R170, R206) -/

/-- The argument bytes of the command held. -/
def State.arg (s : State) (i : Fin 3) : Byte := s.cfg.slot.args[i]

/-- ACK has the GLOBAL form: argument 2, bit 7 (R206). -/
def ackGlobal (arg2 : Byte) : Bool := arg2.getLsbD 7

/-- The stream set of the STREAM form names a stream: argument 0 holds streams 0 to 7, argument 1 streams 8 to 15 (R206). -/
def ackNames (arg0 arg1 : Byte) (k : StreamId) : Bool :=
  if k.val < 8 then arg0.getLsbD k.val else arg1.getLsbD (k.val - 8)

/-- The statuses of a stream after an ACK in the STREAM form: the named event causes, and the named watch causes under TRIP or
BOTH, become CLEAR; LEVEL ones stay (R170). -/
def ackStream (arg2 : Byte) (r : StreamRecord) (v : BitVec 6) : BitVec 6 :=
  v &&& ~~~(arg2.setWidth 6 &&& ~~~levelBits r)

/-- The alarm unit after the clearing of an ACK (R170, R206). -/
def ackClear (s : State) : Alarm :=
  if ackGlobal (s.arg 2) then
    { s.alm with globalStatus := s.alm.globalStatus &&& ~~~((s.arg 0).setWidth 7) }
  else
    { s.alm with status := mapAll s.alm.status fun k v =>
        if ackNames (s.arg 0) (s.arg 1) k then ackStream (s.arg 2) (s.record k) v else v }

/-- ACK is carried out: its completion raises COMMAND first, then the named statuses are cleared (R170). -/
def actAck (s : State) : State :=
  let s := finishCommand .done .ok .none s
  { s with alm := ackClear s }

/-- ACK arrives. -/
def takeAck (s : State) : State := arriveAs 0x03 actAck s

/-! ### RETIRE (R190) -/

/-- A stream becomes RETIRING, with its staged state request ON (R190). -/
def startRetiring (k : StreamId) (s : State) : State :=
  { s with cfg := { s.cfg with
      streamState := putAt s.cfg.streamState k .retiring
      staged := { s.cfg.staged with streams := modAt s.cfg.staged.streams k fun r => { r with stateRequest := 1 } } } }

/-- A request in WAIT_SLOT for the retiring stream is refused RETIRED (R13). -/
def refuseRetired (k : StreamId) (s : State) : State :=
  match s.stage with
  | .waitSlot req reg j _ => if j = k then refuse req reg .retired (some k) s else s
  | .empty | .waitRefusal _ _ _ _ | .waitDrain _ _ | .waitIssue _ _ => s

/-- RETIRE is carried out: refused BAD_ARG or WRONG_REGIME, else the stream becomes RETIRING and the slot PENDING, and the drain
is tested at once (R190). -/
def actRetire (s : State) : State :=
  if h : (s.arg 0).toNat < 16 then
    let k : StreamId := ⟨(s.arg 0).toNat, h⟩
    if s.cfg.streamState[k] ≠ .on then finishCommand .refused .badArg .none s
    else if s.cfg.regime ≠ .regulate then finishCommand .refused .wrongRegime .none s
    else checkDrained (refuseRetired k (becomePending (startRetiring k s)))
  else finishCommand .refused .badArg .none s

/-- RETIRE arrives. -/
def takeRetire (s : State) : State := arriveAs 0x04 actRetire s

/-! ### RESTART (R193) -/

/-- Every status CLEAR, the masks and the hold as they stand (R172). -/
def Alarm.cleared (a : Alarm) : Alarm := { a with status := Vector.replicate 16 0, globalStatus := 0 }

/-- The governor after RESTART (R157). -/
def restartGovernor (s : State) : Governor :=
  { rate := mapAll s.gov.rate fun k _ => startRate (s.record k)
    miss := Vector.replicate 16 0
    hotFilter := 0
    pressure := .normal }

/-- The monitor after RESTART, but for the epoch that begins (R131, R137). -/
def Monitor.restarted (m : Monitor) : Monitor :=
  { m.zeroed with
    seq := 0
    reports := Vector.replicate 16 StreamReport.zero
    greport := GlobalReport.zero
    watches := Vector.replicate 16 Watch.clear }

/-- RESTART is carried out: measurement and governance start afresh (R193). COMMAND is raised before the statuses are cleared
(R172), so it ends CLEAR. A stream that is starving at that moment has its flag set again (R56). -/
def actRestart (s : State) : State :=
  let s := finishCommand .done .ok .none s
  markStarved
    (beginEpoch s.now
      { s with
        accounts := clearStarved s.accounts
        mon := s.mon.restarted
        gov := restartGovernor s
        alm := s.alm.cleared })

/-- RESTART arrives. -/
def takeRestart (s : State) : State := arriveAs 0x05 actRestart s

/-! ### CANCEL (R194) -/

/-- Every RETIRING stream is ON again. -/
def unretire (v : Vector StreamState 16) : Vector StreamState 16 :=
  mapAll v fun _ st => if st = .retiring then .on else st

/-- CANCEL arrives: it ends a PENDING COMMIT or RETIRE, or is taken and refused NOTHING_PENDING (R194). -/
def takeCancel (s : State) : State :=
  if s.slotPending then
    finishCommand .cancelled .cancelled s.cfg.slot.detail
      { s with cfg := { s.cfg with streamState := unretire s.cfg.streamState } }
  else finishCommand .refused .nothingPending .none (takeCode 0x06 s)

/-! ### Arrival (R181) -/

/-- A command that names no command is refused UNKNOWN (R181). -/
def actUnknown (s : State) : State := finishCommand .refused .unknown .none s

/-- A command arrives at the completed write of its code (R181, R206). -/
def commandArrives (code : Byte) (s : State) : State :=
  if code = 0x01 then takeCommit s
  else if code = 0x02 then takeRevert s
  else if code = 0x03 then takeAck s
  else if code = 0x04 then takeRetire s
  else if code = 0x05 then takeRestart s
  else if code = 0x06 then takeCancel s
  else arriveAs code actUnknown s

/-- The link takes no byte while RESET# is asserted, so no command arrives then (R197). -/
def whileRunning (f : State → State) (s : State) : State := if s.pins.reset then s else f s

/-- COMMIT (R183). -/
def execCommit (s : State) : Host.Outcome State Fault Refusal := .next (whileRunning takeCommit s)
/-- REVERT (R188). -/
def execRevert (s : State) : Host.Outcome State Fault Refusal := .next (whileRunning takeRevert s)
/-- ACK (R170). -/
def execAck (s : State) : Host.Outcome State Fault Refusal := .next (whileRunning takeAck s)
/-- RETIRE (R190). -/
def execRetire (s : State) : Host.Outcome State Fault Refusal := .next (whileRunning takeRetire s)
/-- RESTART (R193). -/
def execRestart (s : State) : Host.Outcome State Fault Refusal := .next (whileRunning takeRestart s)
/-- CANCEL (R194). -/
def execCancel (s : State) : Host.Outcome State Fault Refusal := .next (whileRunning takeCancel s)
/-- UNKNOWN_CODE (R181). A code that does name a command has that command's effect. -/
def execUnknownCode (code : Byte) (s : State) : Host.Outcome State Fault Refusal :=
  .next (whileRunning (commandArrives code) s)

end Sys2Proof.Machine
end

