-- ==== Sys2Proof/WellFormed.lean ====
section
/-! DEFINITION. The commands that the outside world can send: what the records of the spec promise beyond their field widths. -/

namespace Sys2Proof

/-- The write data of a request: one element per beat of a WRITE, none for a READ (R1). -/
def Request.dataMatches (r : Request) : Bool :=
  match r.kind with
  | .read => r.data.isEmpty
  | .write => r.data.length == r.beats.val

/-- The staged pages: global settings, window table and stream records (R204). -/
def isStagedPage (page : Nat) : Bool :=
  page == 0x01 || (0x10 ≤ page && page ≤ 0x11) || (0x20 ≤ page && page ≤ 0x23)

/-- The command codes 01h to 06h name commands; every other byte names none (R206). -/
def namesCommand (code : Byte) : Bool := 1 ≤ code.toNat && code.toNat ≤ 6

/-- The check on each command. -/
def Instr.wf : Instr → Bool
  | .requestTaken req => req.dataMatches
  | .holdTimeout who => who.Nodup
  | .responseTimeout who => who.Nodup
  | .sclTimeout lowFor => Config.sclLowMin ≤ lowFor && lowFor ≤ Config.sclLowMax
  | .unknownCode code => !namesCommand code
  | .stagedWrite page _ _ => isStagedPage page.toNat
  | .placement | .passIssue | .issue | .responseArrival _ | .responseDelivered | .offerAccepted | .stallTimeout
  | .refillTick | .publication | .adjustment _ | .commitEvent | .poolEmpty | .retirementCompletion
  | .resetAssert | .resetDeassert _ | .urstAssert | .urstDeassert | .drstAssert | .drstDeassert
  | .transferStart _ _ | .writeByte _ | .readByte _ _ | .transferEnd
  | .commit | .revert | .ack | .retire | .restart | .cancel
  | .maskWrite _ _ | .alertHoldWrite _ | .fieldWrite _ _ | .downstreamPortReady _ => true

end Sys2Proof
end

