-- ==== Sys2Proof/Machine/Pages.lean ====
section
/-! DEFINITION. What the management pages read: every field of every page with its place and its present value (R204 to R210). -/

namespace Sys2Proof.Machine

/-- A field of a page: its lowest offset on the page (or in the record it belongs to), its length in bytes, its value. -/
structure PageField where
  off : Nat
  len : Nat
  value : Nat
  deriving DecidableEq, Repr

/-- The field that holds an offset. -/
def pageFieldAt (fields : List PageField) (o : Nat) : Option PageField :=
  fields.find? fun f => f.off ≤ o && o < f.off + f.len

/-- A field of a record placed at `base`. -/
def PageField.at (base : Nat) (f : PageField) : PageField := { f with off := base + f.off }

/-- The low `n` bytes of a signed number in two's complement (R209). -/
def twosComplement (n : Nat) (i : Int) : Nat := (BitVec.ofInt (8 * n) i).toNat

/-! ### Codes (R204, R206, R209) -/

def Regime.code : Regime → Nat
  | .pass => 0
  | .regulate => 1
  | .draining => 2

def Pressure.code : Pressure → Nat
  | .normal => 0
  | .emergency => 1

def Stage.code : Stage → Nat
  | .empty => 0
  | .waitSlot _ _ _ _ => 1
  | .waitRefusal _ _ _ _ => 2
  | .waitDrain _ _ => 3
  | .waitIssue _ _ => 4

def StreamState.code : StreamState → Nat
  | .off => 0
  | .on => 1
  | .retiring => 2

def SlotState.code : SlotState → Nat
  | .idle => 0
  | .pending => 1
  | .done => 2
  | .refused => 3
  | .cancelled => 4

def Result.code : Result → Nat
  | .none => 0x00
  | .ok => 0x01
  | .busy => 0x02
  | .unknown => 0x03
  | .range => 0x10
  | .rateOrder => 0x11
  | .slotOrder => 0x12
  | .reserveSum => 0x13
  | .rateLimits => 0x14
  | .latencyLimits => 0x15
  | .criticalOrder => 0x16
  | .windowForm => 0x17
  | .windowStream => 0x18
  | .missStream => 0x19
  | .occupied => 0x20
  | .badArg => 0x21
  | .wrongRegime => 0x22
  | .nothingPending => 0x23
  | .cancelled => 0x24

def Detail.code : Detail → Nat
  | .none => 0x00
  | .global => 0x01
  | .stream s => 0x10 + s.val
  | .window n => 0x20 + n.val

/-! ### Pages 00h, 03h, 04h -/

/-- Page 00h, identification and live state (R204). -/
def livePage (s : State) : List PageField :=
  [ ⟨0x00, 2, Config.partCode⟩, ⟨0x02, 1, Config.revision⟩, ⟨0x03, 1, s.link.straps.toNat⟩,
    ⟨0x10, 1, s.cfg.regime.code⟩, ⟨0x11, 1, s.gov.pressure.code⟩, ⟨0x12, 1, s.pins.hot.toNat⟩,
    ⟨0x13, 1, s.gov.hotFilter⟩, ⟨0x14, 1, s.pool.length⟩, ⟨0x15, 1, s.quarantineCount⟩,
    ⟨0x16, 1, s.stage.code⟩, ⟨0x17, 1, s.mon.regulated.toNat⟩ ]

/-- Page 03h, the request fields, the command slot and the alert hold; the command code reads 00h (R206). The slot arguments at 09h
to 0Bh, one entry of the layout, are three single-byte fields that no read latch takes: DEDUCED (log 26), for R206 says so of the
request arguments only. -/
def commandPage (s : State) : List PageField :=
  [ ⟨0x00, 1, 0⟩, ⟨0x01, 1, s.cfg.reqArgs[0].toNat⟩, ⟨0x02, 1, s.cfg.reqArgs[1].toNat⟩, ⟨0x03, 1, s.cfg.reqArgs[2].toNat⟩,
    ⟨0x08, 1, s.cfg.slot.code.toNat⟩, ⟨0x09, 1, s.cfg.slot.args[0].toNat⟩, ⟨0x0A, 1, s.cfg.slot.args[1].toNat⟩,
    ⟨0x0B, 1, s.cfg.slot.args[2].toNat⟩, ⟨0x0C, 1, s.cfg.slot.state.code⟩, ⟨0x0D, 1, s.cfg.slot.result.code⟩,
    ⟨0x0E, 1, s.cfg.slot.detail.code⟩, ⟨0x0F, 1, s.cfg.slot.discarded⟩, ⟨0x10, 1, s.alm.hold.toNat⟩ ]

/-- The three watch items as bits, rate high lowest (R207). -/
def watchBits (w : Watch) : Nat := w.high.toNat + 2 * w.low.toNat + 4 * w.latency.toNat

/-- Page 04h, the alarm page (R207). -/
def alarmPage (s : State) : List PageField :=
  (allStreams.map fun k => ⟨k.val, 1, s.alm.status[k].toNat⟩) ++ [⟨0x10, 1, s.alm.globalStatus.toNat⟩] ++
  (allStreams.map fun k => ⟨0x20 + k.val, 1, s.alm.mask[k].toNat⟩) ++ [⟨0x30, 1, s.alm.globalMask.toNat⟩] ++
  (allStreams.map fun k => ⟨0x40 + k.val, 1, watchBits s.mon.watches[k]⟩) ++
  [⟨0x50, 1, s.gov.pressure.code + 2 * s.alm.driven.toNat⟩]

/-! ### Live stream state, in-flight view, reports -/

/-- The live state of a stream (R209). -/
def liveStream (s : State) (k : StreamId) : List PageField :=
  [ ⟨0x00, 1, s.cfg.streamState[k].code⟩, ⟨0x01, 1, (s.guardBlocked k).toNat + 2 * watchBits s.mon.watches[k]⟩,
    ⟨0x02, 1, s.mon.watches[k].fault⟩, ⟨0x03, 1, s.gov.miss[k]⟩, ⟨0x04, 4, twosComplement 4 s.accounts[k].balance⟩,
    ⟨0x08, 2, s.gov.rate[k]⟩, ⟨0x0A, 1, s.used k⟩ ]

/-- The state byte of an in-flight entry: the state in bits 0..2, response held in bit 7 (R209). -/
def Entry.code : Entry → Nat
  | .free => 0
  | .active _ none => 1
  | .active _ (some _) => 1 + 128
  | .expiring _ .timeout => 2
  | .expiring _ .dreset => 3
  | .quarantined _ .timeout => 4
  | .quarantined _ .ureset => 5

/-- The transaction fields of an entry that is not FREE (R99). -/
def Entry.flight : Entry → Option Flight
  | .free => none
  | .active t _ => some t
  | .expiring t _ => some t
  | .quarantined t _ => some t

def Kind.code : Kind → Nat
  | .read => 0
  | .write => 1

/-- The time since issue in microseconds, with the fraction dropped, saturating (R209). -/
def sinceIssue (now : Nat) (t : Flight) : Nat := min Config.countTop ((now - t.issueTime) / Config.usTicks)

/-- What the view shows of an entry's transaction: 0 when the entry is FREE (R209). -/
def Entry.shown (e : Entry) (f : Flight → Nat) : Nat :=
  match e.flight with
  | some t => f t
  | none => 0

/-- An in-flight entry in the view (R209); a FREE entry reads 00h in all its bytes. -/
def flightRecord (s : State) (n : EntryId) : List PageField :=
  let e := s.table[n]
  [ ⟨0x00, 1, e.code⟩,
    ⟨0x01, 1, e.shown fun t => t.pair.initiator.val + 64 * Kind.code t.kind + 128 * t.stream.isSome.toNat⟩,
    ⟨0x02, 1, e.shown fun t => t.pair.tag.val⟩,
    ⟨0x03, 1, e.shown fun t => ((t.stream.map fun k => k.val).getD 0) + 16 * (t.beats.val - 1)⟩,
    ⟨0x04, 4, e.shown (sinceIssue s.now)⟩ ]

/-- A published stream record (R210). -/
def streamRecordPage (s : State) (k : StreamId) : List PageField :=
  let r := s.mon.reports[k]
  [ ⟨0x00, 4, r.counts.bytes⟩, ⟨0x04, 4, r.counts.reads⟩, ⟨0x08, 4, r.counts.writes⟩, ⟨0x0C, 4, r.counts.completions⟩,
    ⟨0x10, 4, r.counts.memfaults⟩, ⟨0x14, 2, r.counts.latencyMax⟩, ⟨0x16, 2, r.mean.getD 0⟩,
    ⟨0x18, 1, r.mean.isSome.toNat + 2 * r.starved.toNat⟩, ⟨0x19, 1, r.counts.peak⟩, ⟨0x1A, 2, r.effRate⟩,
    ⟨0x1C, 4, twosComplement 4 r.balance⟩, ⟨0x20, 4, r.counts.window⟩, ⟨0x24, 4, r.counts.full⟩,
    ⟨0x28, 4, r.counts.stale⟩, ⟨0x2C, 4, r.counts.retired⟩, ⟨0x30, 4, r.counts.lost⟩, ⟨0x34, 4, r.counts.late⟩,
    ⟨0x38, 4, r.counts.drain⟩, ⟨0x3C, 2, s.mon.seq.toNat⟩ ]

/-- Page 34h, the published global record (R210). -/
def globalRecordPage (s : State) : List PageField :=
  let r := s.mon.greport
  [ ⟨0x00, 2, s.mon.seq.toNat⟩, ⟨0x02, 1, r.regulated.toNat + 2 * r.mean.isSome.toNat⟩, ⟨0x04, 2, r.epochLength⟩,
    ⟨0x06, 1, r.counts.peak⟩, ⟨0x08, 4, r.counts.bytes⟩, ⟨0x0C, 4, r.counts.reads⟩, ⟨0x10, 4, r.counts.writes⟩,
    ⟨0x14, 4, r.counts.completions⟩, ⟨0x18, 4, r.counts.memfaults⟩, ⟨0x1C, 2, r.counts.latencyMax⟩,
    ⟨0x1E, 2, r.mean.getD 0⟩, ⟨0x20, 4, r.span⟩, ⟨0x24, 4, r.duplicate⟩, ⟨0x28, 4, r.counts.window⟩,
    ⟨0x2C, 4, r.counts.full⟩, ⟨0x30, 4, r.counts.stale⟩, ⟨0x34, 4, r.counts.retired⟩, ⟨0x38, 4, r.counts.lost⟩,
    ⟨0x3C, 4, r.counts.late⟩, ⟨0x40, 4, r.counts.drain⟩, ⟨0x44, 4, r.orphan⟩, ⟨0x48, 4, r.discard⟩ ]

/-! ### The page map (R204) -/

/-- The field of a copy at (page, offset), given the item the page map places there. -/
def settingsPageField (c : Settings) (place : Option (Place × Nat)) (off : Nat) : Option PageField :=
  match place with
  | none => none
  | some (p, o) => (settingsField p o).map fun f => ⟨off - o + f.off, f.len, f.get c⟩

/-- The field at offset `off`, counted from the first of the pages that hold records of `size` bytes. -/
def recordField {n : Nat} (size : Nat) (fields : Fin n → List PageField) (page off : Nat) : Option PageField :=
  let o := page * 256 + off
  if h : o / size < n then
    (pageFieldAt (fields ⟨o / size, h⟩) (o % size)).map (PageField.at (off - o % size))
  else none

/-- The field at (page, offset); none where the offset is reserved or the page is not in the map (R202, R204). -/
def fieldOf (s : State) (page off : Nat) : Option PageField :=
  if page = 0x00 then pageFieldAt (livePage s) off
  else if isStagedPage page then settingsPageField s.cfg.staged (stagedPlace page off) off
  else if (activePlace page off).isSome then settingsPageField s.cfg.active (activePlace page off) off
  else if page = 0x03 then pageFieldAt (commandPage s) off
  else if page = 0x04 then pageFieldAt (alarmPage s) off
  else if 0x28 ≤ page ∧ page ≤ 0x2B then recordField 64 (liveStream s) (page - 0x28) off
  else if 0x30 ≤ page ∧ page ≤ 0x33 then recordField 64 (streamRecordPage s) (page - 0x30) off
  else if page = 0x34 then pageFieldAt (globalRecordPage s) off
  else if 0x40 ≤ page ∧ page ≤ 0x41 then recordField 8 (flightRecord s) (page - 0x40) off
  else none

/-- The byte at (page, offset) from the present values: reserved offsets and unknown pages read 00h (R202). -/
def pageByte (s : State) (page off : Nat) : Byte :=
  match fieldOf s page off with
  | some f => byteOf f.value (off - f.off)
  | none => 0

end Sys2Proof.Machine
end

