-- ==== Sys2Proof/Machine/Link.lean ====
section
/-! DEFINITION. The management link: TRANSFER_START, WRITE_BYTE, READ_BYTE, TRANSFER_END, SCL_TIMEOUT, and the completed writes
STAGED_WRITE, MASK_WRITE, ALERT_HOLD_WRITE, FIELD_WRITE. -/

namespace Sys2Proof.Machine

/-! ### Completed field writes (R165, R166, R184, R201) -/

/-- A staged write that reaches the state request of a RETIRING stream, which is ignored (R190). -/
def ignoredForRetiring (s : State) (p : Place) (f : Field Settings) : Bool :=
  match p with
  | .stream k => f.off == 0 && s.cfg.streamState[k] == .retiring
  | .global => false
  | .window _ => false

/-- A staged write is discarded and counted, staying at 255 (R184). -/
def discardWrite (s : State) : State :=
  { s with cfg := { s.cfg with slot := { s.cfg.slot with discarded := min 255 (s.cfg.slot.discarded + 1) } } }

/-- The staged field takes the value (R174). -/
def putStaged (f : Field Settings) (v : Nat) (s : State) : State :=
  { s with cfg := { s.cfg with staged := f.set s.cfg.staged v } }

/-- The write of the field at (page, offset) of a staged page completes (R184): it is discarded and counted while a COMMIT is
PENDING, ignored for the state request of a RETIRING stream, and otherwise carried out. A reserved offset is ignored and not
counted (R202). -/
def writeStaged (page off v : Nat) (s : State) : State :=
  match stagedPlace page off with
  | none => s
  | some (p, o) =>
    match settingsField p o with
    | none => s
    | some f =>
      if s.pendingCode 0x01 then discardWrite s
      else if ignoredForRetiring s p f then s
      else putStaged f v s

/-- The write of a mask byte completes: the masks it holds take the value; the other bits are ignored (R165, R202, R207). -/
def writeMask (which : MaskByte) (v : Byte) (s : State) : State :=
  match which with
  | .stream k => { s with alm := { s.alm with mask := putAt s.alm.mask k (v.setWidth 6) } }
  | .global => { s with alm := { s.alm with globalMask := v.setWidth 7 } }

/-- The write of the alert hold completes: bit 0, 1 ON (R166, R206). -/
def writeHold (v : Byte) (s : State) : State := { s with alm := { s.alm with hold := v.getLsbD 0 } }

/-- The write of a request argument field completes (R201). -/
def writeArg (i : Fin 3) (v : Byte) (s : State) : State := { s with cfg := { s.cfg with reqArgs := putAt s.cfg.reqArgs i v } }

/-- The write of the field whose lowest offset is `off` completes with this value, on a page that is not staged (R201). -/
def completeOther (page off v : Nat) (s : State) : State :=
  let b : Byte := BitVec.ofNat 8 v
  if page = 0x03 ∧ off = 0x00 then commandArrives b s
  else if page = 0x03 ∧ off = 0x01 then writeArg 0 b s
  else if page = 0x03 ∧ off = 0x02 then writeArg 1 b s
  else if page = 0x03 ∧ off = 0x03 then writeArg 2 b s
  else if page = 0x03 ∧ off = 0x10 then writeHold b s
  else if h : page = 0x04 ∧ 0x20 ≤ off ∧ off ≤ 0x2F then writeMask (.stream ⟨off - 0x20, by omega⟩) b s
  else if page = 0x04 ∧ off = 0x30 then writeMask .global b s
  else s

/-! ### Bytes of a write transfer (R198, R201) -/

/-- The link with the write latch changed. -/
def setWriteLatch (l : Option WriteLatch) (s : State) : State := { s with link := { s.link with writeLatch := l } }

/-- The bytes the write latch holds for a field: none when it holds another field or nothing. -/
def latchedBytes (l : Option WriteLatch) (page off : Nat) : List (Nat × Byte) :=
  match l with
  | some w => if w.page = page ∧ w.offset = off then w.bytes else []
  | none => []

/-- The value a multi-byte field takes at completion: the bytes written in this transfer, and its present value in the others
(R201). -/
def mergeBytes (bytes : List (Nat × Byte)) (present len : Nat) : Nat :=
  ((List.range len).map fun i => ((bytes.lookup i).getD (byteOf present i)).toNat * 256 ^ i).sum

/-- A byte is written at a place of a multi-byte staged field: it goes to the write latch, and at the field's highest byte the
write completes (R201). `lo` is the field's lowest offset on its page. -/
def writeLatched (page lo : Nat) (f : Field Settings) (i : Nat) (b : Byte) (s : State) : State :=
  let bytes := (i, b) :: latchedBytes s.link.writeLatch page lo
  if i + 1 = f.len then
    writeStaged page lo (mergeBytes bytes (f.get s.cfg.staged) f.len) (setWriteLatch none s)
  else setWriteLatch (some { page := page, offset := lo, bytes := bytes }) s

/-- A byte is written at (page, offset) of a staged page; a reserved offset is ignored (R201, R202). -/
def writeStagedByte (page off : Nat) (b : Byte) (s : State) : State :=
  match stagedPlace page off with
  | none => s
  | some (p, o) =>
    match settingsField p o with
    | none => s
    | some f => if f.len = 1 then writeStaged page off b.toNat s else writeLatched page (off - o + f.off) f (o - f.off) b s

/-- A byte is written at (page, offset) (R201, R202). -/
def writeAt (page off : Nat) (b : Byte) (s : State) : State :=
  if isStagedPage page then writeStagedByte page off b s else completeOther page off b.toNat s

/-- The device acknowledges or does not. -/
def setAck (ack : Bool) (s : State) : State := { s with ports := { s.ports with linkAck := ack } }

/-- The page pointer and offset move. -/
def setPointer (page : Byte) (off : Nat) (st : TransferState) (s : State) : State :=
  { s with link := { s.link with page := page, offset := off, state := st } }

/-- A data byte of a write transfer (R198). Outside a write transfer the device ignores the bus: the byte is not acknowledged and
does nothing else (R197, R203; log 13). -/
def receiveByte (b : Byte) (s : State) : State :=
  match s.link.state with
  | .writePage => setAck true (setPointer b 0 .writeOffset s)
  | .writeOffset => setAck true (setPointer s.link.page b.toNat .writeData s)
  | .writeData =>
    if s.link.offset < 256 then
      setAck true (writeAt s.link.page.toNat s.link.offset b (setPointer s.link.page (s.link.offset + 1) .writeData s))
    else setAck false s
  | .idle => setAck false s
  | .read => setAck false s

/-- WRITE_BYTE (R198). -/
def execWriteByte (b : Byte) (s : State) : Host.Outcome State Fault Refusal := .next (whileRunning (receiveByte b) s)

/-! ### Bytes of a read transfer (R199, R200) -/

/-- The byte of a multi-byte field: its lowest byte loads the read latch with the whole field; a further byte comes from the
latch when the latch holds the field, and from the present value otherwise (R200). -/
def latchedRead (page off : Nat) (f : PageField) (l : Option ReadLatch) : Byte × Option ReadLatch :=
  if off = f.off then (byteOf f.value 0, some { page := page, offset := f.off, value := f.value })
  else match l with
    | some r => if r.page = page ∧ r.offset = f.off then (byteOf r.value (off - f.off), l) else (byteOf f.value (off - f.off), l)
    | none => (byteOf f.value (off - f.off), l)

/-- The byte that a read at (page, offset) sends, and the read latch after it (R199, R200, R202). -/
def readAt (s : State) (page off : Nat) : Byte × Option ReadLatch :=
  if 256 ≤ off then (0, s.link.readLatch)
  else match fieldOf s page off with
    | none => (0, s.link.readLatch)
    | some f => if f.len = 1 then (byteOf f.value 0, s.link.readLatch) else latchedRead page off f s.link.readLatch

/-- A byte of a read transfer is sent, and the controller acknowledges it or not (R199). -/
def sendByte (ack : Bool) (s : State) : State :=
  { s with
    link := { s.link with
      offset := min 256 (s.link.offset + 1)
      readEnded := !ack
      readLatch := (readAt s s.link.page.toNat s.link.offset).2 }
    ports := { s.ports with linkSent := s.ports.linkSent ++ [(readAt s s.link.page.toNat s.link.offset).1] } }

/-- The controller clocks a byte: the device sends one in a read transfer none of whose bytes was left unacknowledged (R199).
The level of HOT at this moment is the one the live-state page reads (R204). -/
def clockByte (hot ack : Bool) (s : State) : State :=
  if s.link.state = .read ∧ s.link.readEnded = false then sendByte ack { s with pins := { s.pins with hot := hot } } else s

/-- READ_BYTE (R199). -/
def execReadByte (hot ack : Bool) (s : State) : Host.Outcome State Fault Refusal := .next (whileRunning (clockByte hot ack) s)

/-! ### Transfers (R197, R203) -/

/-- A transfer ends: a partial field write is discarded and the read latch is emptied; the pointer stays (R197, R200, R201). -/
def endTransfer (s : State) : State :=
  { s with link := { s.link with state := .idle, readEnded := false, readLatch := none, writeLatch := none } }

/-- The target address: 5Ah plus the straps (R197). -/
def targetAddress (straps : BitVec 2) : Nat := Config.targetBase + straps.toNat

/-- A start or repeated start with an address byte: the transfer in progress ends; the device's own address begins a new one and
is acknowledged, any other is not (R197). -/
def startTransfer (address : BitVec 7) (read : Bool) (s : State) : State :=
  let s := endTransfer s
  if address.toNat = targetAddress s.link.straps then
    setAck true { s with link := { s.link with state := if read then .read else .writePage } }
  else setAck false s

/-- TRANSFER_START (R197). -/
def execTransferStart (address : BitVec 7) (read : Bool) (s : State) : Host.Outcome State Fault Refusal :=
  .next (whileRunning (startTransfer address read) s)

/-- TRANSFER_END (R197). -/
def execTransferEnd (s : State) : Host.Outcome State Fault Refusal := .next (whileRunning endTransfer s)

/-- SCL has been low for `lowFor`: in 30 to 30.001 ms of a transfer in progress the device abandons it (R203). -/
def abandonTransfer (lowFor : Nat) (s : State) : State :=
  if s.link.state ≠ .idle ∧ Config.sclLowMin ≤ lowFor ∧ lowFor ≤ Config.sclLowMax then endTransfer s else s

/-- SCL_TIMEOUT (R203). -/
def execSclTimeout (lowFor : Nat) (s : State) : Host.Outcome State Fault Refusal :=
  .next (whileRunning (abandonTransfer lowFor) s)

/-! ### The completed writes as commands of their own -/

/-- STAGED_WRITE (R184). -/
def execStagedWrite (page offset : Byte) (value : BitVec 32) (s : State) : Host.Outcome State Fault Refusal :=
  .next (whileRunning (writeStaged page.toNat offset.toNat value.toNat) s)

/-- MASK_WRITE (R165). -/
def execMaskWrite (which : MaskByte) (value : Byte) (s : State) : Host.Outcome State Fault Refusal :=
  .next (whileRunning (writeMask which value) s)

/-- ALERT_HOLD_WRITE (R166). -/
def execAlertHoldWrite (value : Byte) (s : State) : Host.Outcome State Fault Refusal :=
  .next (whileRunning (writeHold value) s)

/-- FIELD_WRITE (R201). -/
def execFieldWrite (arg : Fin 3) (value : Byte) (s : State) : Host.Outcome State Fault Refusal :=
  .next (whileRunning (writeArg arg value) s)

end Sys2Proof.Machine
end

