-- ==== Sys2Proof/Machine/Resets.lean ====
section
/-! DEFINITION. The reset inputs: RESET_ASSERT, RESET_DEASSERT, URST_ASSERT, URST_DEASSERT, DRST_ASSERT, DRST_DEASSERT. -/

namespace Sys2Proof.Machine

/-- RESET# is asserted: the whole device takes its power-on state, and every transaction is discarded without a response (R25,
R43, R61, R88, R114, R137, R156, R173, R177, R197). The other input levels, the queue and the straps sampled before stand. -/
def assertReset (s : State) : State := State.powerOn { s.pins with reset := true } s.link.straps s.pending

/-- RESET_ASSERT (R25). -/
def execResetAssert (s : State) : Host.Outcome State Fault Refusal := .next (assertReset s)

/-- RESET# is deasserted: the time base, the epoch timer and the refill timer start, the straps are sampled, and every effective
rate takes its start value (R50, R116, R117, R156, R197). -/
def deassertReset (straps : BitVec 2) (s : State) : State :=
  if s.pins.reset then
    beginEpoch 0
      { s with
        now := 0
        pins := { s.pins with reset := false }
        refillDue := s.settings.refillPeriod.toNat * Config.usTicks
        gov := { s.gov with rate := mapAll s.gov.rate fun k _ => startRate (s.record k) }
        link := { s.link with straps := straps } }
  else s

/-- RESET_DEASSERT (R116). -/
def execResetDeassert (straps : BitVec 2) (s : State) : Host.Outcome State Fault Refusal := .next (deassertReset straps s)

/-- What URST# makes of an in-flight entry (R113). -/
def urstEntry : Entry → Entry
  | .free => .free
  | .active t none => .quarantined t .ureset
  | .active _ (some _) => .free
  | .expiring t .timeout => .quarantined t .ureset
  | .expiring _ .dreset => .free
  | .quarantined t c => .quarantined t c

/-- The transaction of an entry whose held response URST# discards as a reset drain (R113). -/
def Entry.heldResponse : Entry → Option Flight
  | .active t (some _) => some t
  | .active _ none | .free | .expiring _ _ | .quarantined _ _ => none

/-- The transactions that one URST# drops (R124): the request in the entry stage, the entries of the local response list, the
held transactions, and the ACTIVE and EXPIRING entries. -/
def State.urstDiscards (s : State) : Nat :=
  (if s.stage = .empty then 0 else 1) + s.localList.length + s.pool.length
    + allEntries.countP fun n => s.table[n].resident.isSome

/-- The held responses that URST# discards are counted as reset drains, in ascending entry number (R113). -/
def countDrains (s : State) : State :=
  (allEntries.filterMap fun n => s.table[n].heldResponse).foldl (fun s t => countTo t.stream Acc.drain s) s

/-- URST# drops every resident transaction (R26, R89, R113): the upstream side, the pool and the in-flight table change in this
order, and the pool's emptying may end DRAINING and complete a retirement. -/
def purge (s : State) : State :=
  let t := countDrains s
  checkDrained (checkPoolEmpty (setPool []
    { t with
      pins := { s.pins with urst := true }
      stage := .empty
      tagMap := []
      localList := []
      offers := []
      preferred := .downstream
      table := mapAll s.table fun _ e => urstEntry e
      downResp := none
      mon := { t.mon with discard := raiseCount t.mon.discard s.urstDiscards } }))

/-- URST_ASSERT (R26). While RESET# is asserted the device is in its power-on state and only the level changes. -/
def execUrstAssert (s : State) : Host.Outcome State Fault Refusal :=
  .next (if s.pins.reset then { s with pins := { s.pins with urst := true } } else finish s (purge s))

/-- URST_DEASSERT (R27). -/
def execUrstDeassert (s : State) : Host.Outcome State Fault Refusal :=
  .next { s with pins := { s.pins with urst := false } }

/-- What DRST# makes of an in-flight entry (R111). -/
def drstEntry : Entry → Entry
  | .free => .free
  | .active t _ => .expiring t .dreset
  | .expiring t _ => .expiring t .dreset
  | .quarantined _ _ => .free

/-- The new LOST offers of DRST#, in ascending entry number (R111). -/
def drstOffers (s : State) : List Offer :=
  allEntries.filterMap fun n =>
    match s.table[n] with
    | .active t _ => some (lostOffer n t)
    | .free | .expiring _ _ | .quarantined _ _ => none

/-- DRST# is asserted: the entries change, the offered response is withdrawn, and the new LOST offers are made (R28, R111). -/
def cutDownstream (s : State) : State :=
  (drstOffers s).foldl (fun s o => makeOffer o s)
    { s with
      pins := { s.pins with drst := true }
      table := mapAll s.table fun _ e => drstEntry e
      downResp := none }

/-- DRST_ASSERT (R111). While RESET# is asserted the device is in its power-on state and only the level changes. -/
def execDrstAssert (s : State) : Host.Outcome State Fault Refusal :=
  .next (if s.pins.reset then { s with pins := { s.pins with drst := true } } else finish s (cutDownstream s))

/-- DRST# is deasserted (R112). -/
def releaseDownstream (s : State) : State := { s with pins := { s.pins with drst := false } }

/-- DRST_DEASSERT (R112): grants and PASS-path issues may resume, and starved flags may be set (R56). -/
def execDrstDeassert (s : State) : Host.Outcome State Fault Refusal := .next (finish s (releaseDownstream s))

end Sys2Proof.Machine
end

