-- ==== Sys2Proof/Machine/Upstream.lean ====
section
/-! DEFINITION. The commands of the upstream port and entry stage: REQUEST_TAKEN, PLACEMENT, PASS_ISSUE, RESPONSE_DELIVERED,
OFFER_ACCEPTED, STALL_TIMEOUT, POOL_EMPTY. -/

namespace Sys2Proof.Machine

/-- The checks at the taking event, by the regime in force (R6, R7): span first, then duplicate, then what the regime asks. -/
def checkRequest (req : Request) (registered : Bool) (s : State) : State :=
  if malformed req then refuse req registered .span none s
  else if !registered then refuse req registered .duplicate none s
  else match s.cfg.regime with
    | .regulate => regulatedChecks req registered s
    | .pass => passPath req registered s
    | .draining => { s with stage := .waitDrain req registered }

/-- A request is taken when the entry stage is EMPTY and URST# is deasserted; its pair is added to the tag map when it is
absent (R6, R18). Otherwise it stays offered and nothing changes. -/
def takeRequest (req : Request) (s : State) : State :=
  if s.pins.urst ∨ s.stage ≠ .empty then s
  else if pairOf req ∈ s.tagMap then checkRequest req false s
  else checkRequest req true { s with tagMap := s.tagMap ++ [pairOf req] }

/-- REQUEST_TAKEN (R6). -/
def execRequestTaken (req : Request) (s : State) : Host.Outcome State Fault Refusal := .next (event (takeRequest req) s)

/-- PLACEMENT (R66): the WAIT_SLOT request is placed when its placement test passes. -/
def execPlacement (s : State) : Host.Outcome State Fault Refusal := .next (event retestSlot s)

/-- The request in WAIT_ISSUE is issued in PASS when the port can take it and an entry is FREE (R15). -/
def passIssue (s : State) : State :=
  match s.stage with
  | .waitIssue req reg => if s.cfg.regime = .pass then passPath req reg s else s
  | .empty | .waitSlot _ _ _ _ | .waitRefusal _ _ _ _ | .waitDrain _ _ => s

/-- PASS_ISSUE (R15). -/
def execPassIssue (s : State) : Host.Outcome State Fault Refusal := .next (event passIssue s)

/-- The upstream outcome of a memory response (R4). -/
def upOutcome : MemOutcome → UpOutcome
  | .okay => .okay
  | .memfault => .memfault

/-- The read data of a memory response goes upstream for a READ with OKAY only (R3, R4). -/
def upData (kind : Kind) (outcome : MemOutcome) (data : List (BitVec 128)) : Option (List (BitVec 128)) :=
  match kind, outcome with
  | .read, .okay => some data
  | .read, .memfault => none
  | .write, _ => none

/-- The response of a downstream response (R4). -/
def downstreamResponse (t : Flight) (r : OfferedResponse) : UpResponse :=
  { pair := t.pair, outcome := upOutcome r.outcome, data := upData t.kind r.outcome r.data }

/-- The response of a local response entry (R4): no data. -/
def localResponse (e : LocalEntry) : UpResponse :=
  { pair := e.pair
    outcome := match e.outcome with
      | .denied r => .denied r
      | .lost => .lost
    data := none }

/-- A response goes out upstream. -/
def sendUp (r : UpResponse) (s : State) : State := { s with ports := { s.ports with upSent := s.ports.upSent ++ [r] } }

/-- A pair leaves the tag map (R19). -/
def dropPair (p : TagPair) (s : State) : State := { s with tagMap := s.tagMap.filter (· ≠ p) }

/-- The downstream source is delivered (R102): the pair leaves the tag map, the completion is counted, the entry becomes FREE,
and a RETIRING stream is tested for its drain. -/
def deliverDownstream (r : OfferedResponse) (s : State) : State :=
  match s.table[r.entry] with
  | .active t (some latency) =>
    checkDrained
      (countTo t.stream (Acc.completion latency r.outcome)
        (dropPair t.pair
          (sendUp (downstreamResponse t r)
            { s with table := putAt s.table r.entry .free, downResp := none, preferred := .local })))
  | .active _ none | .free | .expiring _ _ | .quarantined _ _ => s

/-- The head of the local response list is delivered (R19, R20): its pair leaves the tag map when it is registered, and the
place it frees takes the oldest waiting offer (R21). -/
def deliverLocal (e : LocalEntry) (rest : List LocalEntry) (s : State) : State :=
  let s := sendUp (localResponse e) { s with localList := rest, preferred := .downstream }
  acceptOldest (if e.registered then dropPair e.pair s else s)

/-- The upstream response channel accepts a response: the arbiter chooses the source (R23). -/
def deliverResponse (s : State) : State :=
  if s.pins.urst then s
  else match s.downResp, s.localList, s.preferred with
    | none, [], _ => s
    | some r, [], _ => deliverDownstream r s
    | none, e :: rest, _ => deliverLocal e rest s
    | some r, _ :: _, .downstream => deliverDownstream r s
    | some _, e :: rest, .local => deliverLocal e rest s

/-- RESPONSE_DELIVERED (R23). -/
def execResponseDelivered (s : State) : Host.Outcome State Fault Refusal := .next (event deliverResponse s)

/-- OFFER_ACCEPTED (R21). -/
def execOfferAccepted (s : State) : Host.Outcome State Fault Refusal := .next (event acceptOldest s)

/-- The stall timer of the WAIT_SLOT request has reached the stall timeout (R12, R69). -/
def State.stallDue (s : State) (slack : Nat) : Bool :=
  match s.stage with
  | .waitSlot _ _ _ start => start + s.settings.stallTimeout.toNat * Config.usTicks + slack ≤ s.now
  | .empty | .waitRefusal _ _ _ _ | .waitDrain _ _ | .waitIssue _ _ => false

/-- The stall timer expires: the request is refused FULL (R12). -/
def expireStall (s : State) : State :=
  match s.stage with
  | .waitSlot req reg k _ => if s.stallDue 0 then refuse req reg .full (some k) s else s
  | .empty | .waitRefusal _ _ _ _ | .waitDrain _ _ | .waitIssue _ _ => s

/-- STALL_TIMEOUT (R12). -/
def execStallTimeout (s : State) : Host.Outcome State Fault Refusal := .next (event expireStall s)

/-- POOL_EMPTY (R82). -/
def execPoolEmpty (s : State) : Host.Outcome State Fault Refusal := .next (event checkPoolEmpty s)

end Sys2Proof.Machine
end

