-- ==== Sys2Proof/Machine/Dispatch.lean ====
section
/-! DEFINITION. One arm per command: the meaning it has. -/

namespace Sys2Proof.Machine

def exec (i : Instr) (s : State) : Host.Outcome State Fault Refusal :=
  match i with
  | .requestTaken req => Sys2Proof.Machine.execRequestTaken req s
  | .placement => Sys2Proof.Machine.execPlacement s
  | .passIssue => Sys2Proof.Machine.execPassIssue s
  | .issue => Sys2Proof.Machine.execIssue s
  | .responseArrival r => Sys2Proof.Machine.execResponseArrival r s
  | .responseDelivered => Sys2Proof.Machine.execResponseDelivered s
  | .offerAccepted => Sys2Proof.Machine.execOfferAccepted s
  | .stallTimeout => Sys2Proof.Machine.execStallTimeout s
  | .holdTimeout who => Sys2Proof.Machine.execHoldTimeout who s
  | .responseTimeout who => Sys2Proof.Machine.execResponseTimeout who s
  | .refillTick => Sys2Proof.Machine.execRefillTick s
  | .publication => Sys2Proof.Machine.execPublication s
  | .adjustment hot => Sys2Proof.Machine.execAdjustment hot s
  | .commitEvent => Sys2Proof.Machine.execCommitEvent s
  | .poolEmpty => Sys2Proof.Machine.execPoolEmpty s
  | .retirementCompletion => Sys2Proof.Machine.execRetirementCompletion s
  | .resetAssert => Sys2Proof.Machine.execResetAssert s
  | .resetDeassert straps => Sys2Proof.Machine.execResetDeassert straps s
  | .urstAssert => Sys2Proof.Machine.execUrstAssert s
  | .urstDeassert => Sys2Proof.Machine.execUrstDeassert s
  | .drstAssert => Sys2Proof.Machine.execDrstAssert s
  | .drstDeassert => Sys2Proof.Machine.execDrstDeassert s
  | .transferStart address read => Sys2Proof.Machine.execTransferStart address read s
  | .writeByte b => Sys2Proof.Machine.execWriteByte b s
  | .readByte hot ack => Sys2Proof.Machine.execReadByte hot ack s
  | .transferEnd => Sys2Proof.Machine.execTransferEnd s
  | .sclTimeout lowFor => Sys2Proof.Machine.execSclTimeout lowFor s
  | .commit => Sys2Proof.Machine.execCommit s
  | .revert => Sys2Proof.Machine.execRevert s
  | .ack => Sys2Proof.Machine.execAck s
  | .retire => Sys2Proof.Machine.execRetire s
  | .restart => Sys2Proof.Machine.execRestart s
  | .cancel => Sys2Proof.Machine.execCancel s
  | .unknownCode code => Sys2Proof.Machine.execUnknownCode code s
  | .stagedWrite page offset value => Sys2Proof.Machine.execStagedWrite page offset value s
  | .maskWrite which value => Sys2Proof.Machine.execMaskWrite which value s
  | .alertHoldWrite value => Sys2Proof.Machine.execAlertHoldWrite value s
  | .fieldWrite arg value => Sys2Proof.Machine.execFieldWrite arg value s
  | .downstreamPortReady ready => Sys2Proof.Machine.execDownstreamPortReady ready s

end Sys2Proof.Machine
end

