-- ==== Sys2Proof/Machine/Idle.lean ====
section
/-! DEFINITION. What the device does by itself when no command waits: the event that is due, else one tick of the time base
(DESIGN CHOICE, log 2). -/

namespace Sys2Proof.Machine

/-- One unit of the time base passes (R116). -/
def tick (s : State) : State := { s with now := s.now + 1 }

/-- The first event of a list that is due. -/
def firstDue (l : List (Bool × Instr)) : Option Instr := (l.find? fun e => e.1).map (·.2)

/-- A request in WAIT_SLOT passes its placement test (R12). -/
def State.slotReady (s : State) : Bool :=
  match s.stage with
  | .waitSlot _ _ k _ => s.placementOk k
  | .empty | .waitRefusal _ _ _ _ | .waitDrain _ _ | .waitIssue _ _ => false

/-- A request in WAIT_ISSUE can be issued (R15). -/
def State.passReady (s : State) : Bool :=
  match s.stage with
  | .waitIssue _ _ => s.cfg.regime == .pass && s.portOpen && s.firstFree.isSome
  | .empty | .waitSlot _ _ _ _ | .waitRefusal _ _ _ _ | .waitDrain _ _ => false

/-- A grant can be made (R92). -/
def State.grantReady (s : State) : Bool := s.portOpen && s.firstFree.isSome && s.grant.isSome

/-- The RETIRING stream of a PENDING RETIRE is drained (R84). -/
def State.drainReady (s : State) : Bool :=
  match s.retiringStream with
  | some k => s.drained k
  | none => false

/-- The held transactions whose hold timers have run `slack` past their limits (R72). -/
def lateHolds (s : State) (slack : Nat) : List TagPair := (s.pool.filter fun h => s.holdDue slack h).map (·.pair)

/-- The entries whose response timers have run `slack` past the timeout (R105). -/
def lateResponses (s : State) (slack : Nat) : List EntryId := allEntries.filter fun n => s.responseDue slack n

/-- The events that follow at once from the present state (R12, R15, R21, R82, R84, R92). -/
def atOnce (s : State) : List (Bool × Instr) :=
  [ (!s.offers.isEmpty && decide (s.localList.length < Config.listPlaces), .offerAccepted),
    (s.slotReady, .placement),
    (s.cfg.regime == .draining && s.pool.isEmpty, .poolEmpty),
    (s.drainReady, .retirementCompletion),
    (s.passReady, .passIssue),
    (s.grantReady, .issue) ]

/-- The timers that can run no further: the boundary and what belongs to it, the refill tick, and the timeouts at the end of
their window of 1 us (R50, R117; 00_scope, Time). -/
def timersDue (s : State) : List (Bool × Instr) :=
  [ (decide (s.mon.epochEnd ≤ s.now), .publication),
    (s.commitDue, .commitEvent),
    (s.mon.adjustDue, .adjustment s.pins.hot),
    (decide (s.refillDue ≤ s.now), .refillTick),
    (s.stallDue Config.timeoutSlack, .stallTimeout),
    (!(lateHolds s Config.timeoutSlack).isEmpty, .holdTimeout (lateHolds s Config.timeoutSlack)),
    (!(lateResponses s Config.timeoutSlack).isEmpty, .responseTimeout (lateResponses s Config.timeoutSlack)) ]

/-- The event that is due, if any; none while RESET# is asserted (R116). -/
def dueEvent (s : State) : Option Instr := if s.pins.reset then none else firstDue (atOnce s ++ timersDue s)

/-- One step of the device with no command waiting: the due event, else a tick; the time base does not run while RESET# is
asserted (R116). -/
def idle (s : State) : Host.Outcome State Fault Refusal :=
  match dueEvent s with
  | some c => exec c s
  | none => .next (if s.pins.reset then s else tick s)

end Sys2Proof.Machine
end

