-- ==== Sys2Proof/Safety.lean ====
section
/-! DEFINITION. What a sound state of the device is, in the terms the statements use: each predicate is a promise that the manual
makes of every state. -/

namespace Sys2Proof.Machine

/-- RESET# is deasserted: the device works. -/
abbrev State.Running (s : State) : Prop := s.pins.reset = false

/-- The upstream port takes a request (R6). -/
abbrev State.CanTake (s : State) : Prop := s.pins.reset = false ∧ s.pins.urst = false ∧ s.stage = .empty

/-- The downstream port takes a request: the memory controller is ready, and DRST# and RESET# are deasserted (R92). -/
abbrev State.CanIssue (s : State) : Prop := s.pins.reset = false ∧ s.pins.drst = false ∧ s.pins.downReady = true

/-- The FREE entry with the lowest number (R98). -/
abbrev State.LowestFree (s : State) (n : EntryId) : Prop := s.table[n] = .free ∧ ∀ m : EntryId, m < n → s.table[m] ≠ .free

/-- A local response entry for a refusal of this request (R14). -/
def refusalEntry (req : Request) (registered : Bool) (r : Reason) : LocalEntry :=
  { pair := pairOf req, outcome := .denied r, registered := registered }

/-- The STALE entry of a held transaction (R73). -/
def staleEntry (p : TagPair) : LocalEntry := { pair := p, outcome := .denied .stale, registered := true }

/-- While RESET# is asserted the regime is PASS (R177). -/
abbrev State.ResetSound (s : State) : Prop := s.pins.reset = true → s.cfg.regime = .pass

/-- The local response list holds at most 8 entries (R20), and a place is free only while no offer is waiting (R21). -/
abbrev State.ListSound (s : State) : Prop :=
  s.localList.length ≤ Config.listPlaces ∧ (s.offers ≠ [] → s.localList.length = Config.listPlaces)

/-- The active copy passes every static check (R174), and so does the staged copy that a PENDING COMMIT froze (R184). -/
abbrev State.ConfigSound (s : State) : Prop :=
  staticFailure s.cfg.active = none ∧ (s.pendingCode 0x01 = true → staticFailure s.cfg.staged = none)

/-- A stream is OFF exactly when its active state request is OFF, and RETIRING only while a RETIRE is PENDING (R46, R175); no two
streams are RETIRING at a time (R181). -/
abbrev State.StreamsSound (s : State) : Prop :=
  (∀ k : StreamId,
    (s.cfg.streamState[k] = .off ↔ requestsOn (s.record k) = false) ∧
      (s.cfg.streamState[k] = .retiring → s.pendingCode 0x04 = true)) ∧
    ∀ j k : StreamId, s.cfg.streamState[j] = .retiring → s.cfg.streamState[k] = .retiring → j = k

/-- The balance of a PROTECTED stream is 0 (R48); that of any other lies between -256 and its ceiling (R49). -/
abbrev State.BalancesSound (s : State) : Prop :=
  ∀ k : StreamId,
    if s.isProtected k then s.accounts[k].balance = 0
    else -256 ≤ s.accounts[k].balance ∧ s.accounts[k].balance ≤ (s.record k).ceiling.toNat

/-- The request in the entry stage, unless it has been refused, passed the span check (R8). -/
def Stage.wellFormed : Stage → Prop
  | .empty => True
  | .waitSlot req _ _ _ => malformed req = false
  | .waitRefusal _ _ _ _ => True
  | .waitDrain req _ => malformed req = false
  | .waitIssue req _ => malformed req = false

/-- Every transaction that may still be issued passed the span check (R8). -/
def State.RequestsSound (s : State) : Prop :=
  s.stage.wellFormed ∧ ∀ h ∈ s.pool, malformed h.req = false

/-- The guard count of each WAITING transaction is the number of older WAITING transactions that conflict with it (R78):
`older` are the transactions before it in the acceptance order. -/
def guardsSound : List Held → List Held → Prop
  | _, [] => True
  | older, h :: rest => (h.isWaiting = true → h.guards = guardCount older h.req h.stream) ∧ guardsSound (older ++ [h]) rest

/-- No stream occupies more slots than its max slots (R62), and the shared-in-use does not exceed the shared size (R64). -/
abbrev State.SlotsSound (s : State) : Prop :=
  (∀ k : StreamId, s.used k ≤ (s.record k).maxSlots.toNat) ∧ sharedInUse s.cfg.active s.pool ≤ sharedSize s.cfg.active

/-- The pool is empty in PASS and not in DRAINING (R82, R178), and the entry stage waits only for what its regime has: a slot in
REGULATE, the drain in DRAINING, an entry in PASS (R5). -/
def State.RegimeSound (s : State) : Prop :=
  (s.cfg.regime = .pass → s.pool = []) ∧ (s.cfg.regime = .draining → s.pool ≠ []) ∧
    match s.stage with
    | .waitSlot _ _ _ _ => s.cfg.regime = .regulate
    | .waitDrain _ _ => s.cfg.regime = .draining
    | .waitIssue _ _ => s.cfg.regime = .pass
    | .empty | .waitRefusal _ _ _ _ => True

/-- In NORMAL every effective rate lies between its floor and its max rate; in EMERGENCY every BULK rate is 0 and every PACED rate
its floor (R138); and the pressure state is NORMAL outside REGULATE (R152). -/
abbrev State.RatesSound (s : State) : Prop :=
  (s.cfg.regime ≠ .regulate → s.gov.pressure = .normal) ∧
    ∀ k : StreamId,
      (s.gov.pressure = .normal →
        (s.record k).floor.toNat ≤ s.gov.rate[k] ∧ s.gov.rate[k] ≤ (s.record k).maxRate.toNat) ∧
      (s.gov.pressure = .emergency →
        (classOf (s.record k) = .paced → s.gov.rate[k] = (s.record k).floor.toNat) ∧
        (classOf (s.record k) = .bulk → s.gov.rate[k] = 0))

/-- A status holds the bit of a cause. -/
def hasCause (v : BitVec 6) (c : StreamCause) : Bool := v &&& c.bit != 0

/-- Whenever a watch mode is LEVEL, the status of the cause equals the item's state (R163). -/
abbrev State.LevelsSound (s : State) : Prop :=
  ∀ k : StreamId,
    (watchModeOf (s.record k).rateMode = .level →
      hasCause s.alm.status[k] .rateHigh = s.mon.watches[k].high ∧
        hasCause s.alm.status[k] .rateLow = s.mon.watches[k].low) ∧
      (watchModeOf (s.record k).latencyMode = .level → hasCause s.alm.status[k] .latency = s.mon.watches[k].latency)

/-- The pair of the request in the entry stage, when it is registered (R5). -/
def Stage.registeredPair : Stage → List TagPair
  | .empty => []
  | .waitSlot req reg _ _ => if reg then [pairOf req] else []
  | .waitRefusal req reg _ _ => if reg then [pairOf req] else []
  | .waitDrain req reg => if reg then [pairOf req] else []
  | .waitIssue req reg => if reg then [pairOf req] else []

/-- The pairs of the resident transactions, place by place (R18): the entry stage, the local response list, the hold pool and the
in-flight table. -/
def State.residents (s : State) : List TagPair :=
  s.stage.registeredPair ++ (s.localList.filter (·.registered)).map (·.pair) ++ s.pool.map (·.pair) ++
    (s.table.toList.filterMap Entry.resident).map (·.pair)

/-- The tag map holds the pair of every resident transaction and no other, each once (R18). -/
def State.TagsSound (s : State) : Prop := s.residents.Perm s.tagMap ∧ s.tagMap.Nodup

/-- A request that waits in the entry stage for something other than its refusal is registered (R6, R9). -/
def Stage.registeredWait : Stage → Prop
  | .empty => True
  | .waitSlot _ reg _ _ => reg = true
  | .waitRefusal _ _ _ _ => True
  | .waitDrain _ reg => reg = true
  | .waitIssue _ reg => reg = true

/-- The offer belongs to a transaction that waits for it (R22): a refused request in WAIT_REFUSAL, an EXPIRED held transaction, or
an EXPIRING entry. -/
def State.offerStands (s : State) (o : Offer) : Prop :=
  match o.offerer with
  | .stage => ∃ req reg k r, s.stage = .waitRefusal req reg k r ∧
      o.entry = { pair := pairOf req, outcome := .denied r, registered := reg }
  | .held p => (∃ h ∈ s.pool, h.pair = p ∧ h.state = .expired) ∧
      o.entry = { pair := p, outcome := .denied .stale, registered := true }
  | .inflight n => ∃ t c, s.table[n] = .expiring t c ∧ o = lostOffer n t

/-- Every waiting offer stands for its offerer, and no offerer has two (R21, R22). -/
def State.OffersSound (s : State) : Prop :=
  (∀ o ∈ s.offers, s.offerStands o) ∧ (s.offers.map (·.offerer)).Nodup

/-- A stream that is starving has its starved flag set (R56). -/
abbrev State.StarvedSound (s : State) : Prop := ∀ k : StreamId, s.starving k = true → s.accounts[k].starved = true

/-- The response offered at the downstream port is that of the one ACTIVE entry that holds a response (R3, R99). -/
def State.HeldResponseSound (s : State) : Prop :=
  match s.downResp with
  | some r => (∃ t l, s.table[r.entry] = .active t (some l)) ∧
      ∀ n t l, s.table[n] = .active t (some l) → n = r.entry
  | none => ∀ (n : EntryId) t l, s.table[n] ≠ .active t (some l)

end Sys2Proof.Machine
end

