-- ==== Sys2Proof/Certificates/Slice0/Obligations.lean ====
section
/-! DEFINITION. The statements for the provers. Each is a plain proposition over the model; its docstring names the rules it rests
on, and OBLIGATIONS.json lists it. -/

open Sys2Proof Sys2Proof.Machine

/-! ### The queue, the idle device, RESET#, and what follows an event -/

/-- O1. A step takes the command at the front of the queue and runs it on the state with the rest of the queue (log 1). -/
def Obligations.QueueFrontRuns : Prop :=
  ∀ (c : Instr) (rest : List Instr) (s : State), s.pending = c :: rest → step s = exec c { s with pending := rest }

/-- O2. Every command answers a next state, whatever the state, and leaves the queue as it stands. -/
def Obligations.EveryCommandAnswers : Prop :=
  ∀ (c : Instr) (s : State), ∃ t : State, exec c s = .next t ∧ t.pending = s.pending

/-- O3. On an empty queue the device runs by itself (the model's choice, log 2): nothing moves while RESET# is asserted; otherwise
the event that is due comes about, or 10 ns pass. The event that is due is the first of a fixed list whose condition holds: first
what follows at once from the present state, then the boundary and what belongs to it, the refill tick, and the timeouts that have
come to the end of their window of 1 us (log 3). -/
def Obligations.IdleDeviceRuns : Prop :=
  (∀ s : State, s.pending = [] →
    (s.pins.reset = true → step s = .next s) ∧
    (∀ c, dueEvent s = some c → step s = exec c s) ∧
    (s.Running → dueEvent s = none → step s = .next { s with now := s.now + 1 })) ∧
  ∀ s : State,
    let canIssue : Bool := decide (s.CanIssue ∧ ∃ n : EntryId, s.table[n] = .free)
    let waitsForSlot (p : StreamId → Nat → Bool) : Bool := match s.stage with
      | .waitSlot _ _ k start => p k start
      | _ => false
    let drained (k : StreamId) : Bool := decide (s.used k = 0) && (List.finRange 48).all fun n => match s.table[n] with
      | .active f _ => decide (f.stream ≠ some k)
      | .expiring f _ => decide (f.stream ≠ some k)
      | _ => true
    let holds : List TagPair := (s.pool.filter fun h => decide (h.state = .waiting ∧ (s.record h.stream).holdLimit.toNat ≠ 0 ∧
      h.placedAt + (s.record h.stream).holdLimit.toNat * 100 + 100 ≤ s.now)).map fun h => h.pair
    let responses : List EntryId := (List.finRange 48).filter fun n => match s.table[n] with
      | .active f none => decide (f.issueTime + s.settings.responseTimeout.toNat * 100 + 100 ≤ s.now)
      | _ => false
    let events : List (Bool × Instr) :=
      [ (decide (s.offers ≠ [] ∧ s.localList.length < 8), .offerAccepted),
        (waitsForSlot fun k _ => s.placementOk k, .placement),
        (decide (s.cfg.regime = .draining ∧ s.pool = []), .poolEmpty),
        (s.pendingCode 0x04 && match (List.finRange 16).find? fun k => decide (s.cfg.streamState[k] = .retiring) with
          | some k => drained k
          | none => false, .retirementCompletion),
        (match s.stage with
          | .waitIssue _ _ => decide (s.cfg.regime = .pass) && canIssue
          | _ => false, .passIssue),
        (canIssue && s.grant.isSome, .issue),
        (decide (s.mon.epochEnd ≤ s.now), .publication),
        (s.pendingCode 0x01 && decide (s.cfg.slot.judgeAt ≤ s.now), .commitEvent),
        (s.mon.adjustDue, .adjustment s.pins.hot),
        (decide (s.refillDue ≤ s.now), .refillTick),
        (waitsForSlot fun _ start => decide (start + s.settings.stallTimeout.toNat * 100 + 100 ≤ s.now), .stallTimeout),
        (decide (holds ≠ []), .holdTimeout holds),
        (decide (responses ≠ []), .responseTimeout responses) ]
    dueEvent s = if s.pins.reset then none else (events.find? fun e => e.1).map fun e => e.2

/-- O4. The model's reading (log 23): while RESET# is asserted, a reset input or the readiness of the memory controller moves only
its own level, and every other command but the deassertion of RESET# changes nothing. The rules say that the device is in its
power-on state then (R25, R114, R177, R197), not what each command does. -/
def Obligations.ResetHoldsTheDevice : Prop :=
  ∀ (c : Instr) (s : State), s.pins.reset = true →
    match c with
    | .resetAssert => True
    | .resetDeassert _ => True
    | .urstAssert => exec c s = .next { s with pins := { s.pins with urst := true } }
    | .urstDeassert => exec c s = .next { s with pins := { s.pins with urst := false } }
    | .drstAssert => exec c s = .next { s with pins := { s.pins with drst := true } }
    | .drstDeassert => exec c s = .next { s with pins := { s.pins with drst := false } }
    | .downstreamPortReady ready => exec c s = .next { s with pins := { s.pins with downReady := ready } }
    | _ => exec c s = .next s

/-- O5. What follows an event: QUARANTINE is raised when the count crosses its threshold upward (R109), every stream that meets the
conditions of R56 has its starved flag set, and nothing else changes. The count is the number of QUARANTINED entries (R109); the
queue head that R56 reads is the oldest WAITING transaction of its stream (R63). -/
def Obligations.EventEpilogue : Prop :=
  (∀ (a b : State),
    (∀ k : StreamId, (finish a b).accounts[k] = if b.starving k then { b.accounts[k] with starved := true } else b.accounts[k]) ∧
    (finish a b).alm.globalStatus =
      (if a.quarantineCount < a.settings.quarantineThreshold.toNat ∧ b.settings.quarantineThreshold.toNat ≤ b.quarantineCount
        then b.alm.globalStatus ||| 0x08 else b.alm.globalStatus) ∧
    finish a b = { b with accounts := (finish a b).accounts
                          alm := { b.alm with globalStatus := (finish a b).alm.globalStatus } }) ∧
  (∀ (s : State) (k : StreamId), s.starving k = true ↔
    s.cfg.regime = .regulate ∧ classOf (s.record k) ≠ .prot ∧ s.accounts[k].balance < 0 ∧ s.CanIssue ∧
      (∃ n : EntryId, s.table[n] = .free) ∧ ∃ h, s.queueHead k = some h ∧ h.guards = 0) ∧
  ∀ s : State,
    s.quarantineCount = ((List.finRange 48).filter fun n => match s.table[n] with
      | .quarantined _ _ => true
      | _ => false).length ∧
    ∀ k : StreamId, s.queueHead k = (s.pool.filter fun h => decide (h.stream = k ∧ h.state = .waiting)).head?

/-! ### The entry stage -/

/-- O6 (R8). The span check comes first in every regime, whether or not the pair is fresh: a beat count outside 1..16, an address
that is no multiple of 16, or a byte range that crosses a page of memory is refused SPAN and nothing else; any other request is
not. The request is malformed, as the other statements say it, exactly when it fails this check. -/
def Obligations.SpanCheck : Prop :=
  ∀ (req : Request) (s : State), s.CanTake →
    let bad := ¬ (1 ≤ req.beats.val ∧ req.beats.val ≤ 16) ∨ req.address.toNat % 16 ≠ 0 ∨
      4096 < req.address.toNat % 4096 + req.beats.val * 16
    let fresh := decide (pairOf req ∉ s.tagMap)
    (malformed req = true ↔ bad) ∧
    (bad → exec (.requestTaken req) s = .next (finish s
      (makeOffer { offerer := .stage, entry := refusalEntry req fresh .span }
        { s with
          tagMap := if fresh then s.tagMap ++ [pairOf req] else s.tagMap
          stage := .waitRefusal req fresh none .span
          mon := { s.mon with span := min 4294967295 (s.mon.span + 1) }
          alm := { s.alm with globalStatus := s.alm.globalStatus ||| 0x20 } }))) ∧
    (¬ bad → ∃ t, exec (.requestTaken req) s = .next t ∧ t.mon.span = s.mon.span ∧
      (∀ e ∈ t.localList, e.outcome = .denied .span → e ∈ s.localList) ∧
      ∀ o ∈ t.offers, o.entry.outcome = .denied .span → o ∈ s.offers)

/-- O7 (R9). A well-formed request whose pair is in the tag map is refused DUPLICATE, unregistered, in every regime, and disturbs
nothing beside the entry stage, its count and its cause. -/
def Obligations.DuplicateRefused : Prop :=
  ∀ (req : Request) (s : State), s.CanTake → malformed req = false →
    ({ initiator := req.initiator, tag := req.tag } : TagPair) ∈ s.tagMap →
    exec (.requestTaken req) s = .next (finish s
      (makeOffer { offerer := .stage, entry := refusalEntry req false .duplicate }
        { s with
          stage := .waitRefusal req false none .duplicate
          mon := { s.mon with duplicate := min 4294967295 (s.mon.duplicate + 1) }
          alm := { s.alm with globalStatus := s.alm.globalStatus ||| 0x20 } }))

/-- O8 (R31). When a window matches a request, and that its permission and the request's kind and beat count do not enter; with it
the lookup: the lowest-numbered match decides (R32), with the permission table (R33), and a miss goes by the miss policy and
the miss stream (R36, R37). -/
def Obligations.WindowLookup : Prop :=
  (∀ (w : WindowEntry) (r : Request), windowMatches w r = true ↔
    w.valid = true ∧ (w.base.toNat ≤ r.address.toNat / 4096 ∧ r.address.toNat / 4096 ≤ w.limit.toNat) ∧
      (w.matchRange = false ∨ (w.low.toNat ≤ r.initiator.val ∧ r.initiator.val ≤ w.high.toNat))) ∧
  (∀ (w : WindowEntry) (r : Request) (permission : Byte) (kind : Kind) (beats : Fin 32),
    windowMatches { w with permission := permission } { r with kind := kind, beats := beats } = windowMatches w r) ∧
  (∀ (c : Settings) (r : Request),
    (∀ n : WindowId, windowMatches c.windows[n] r = true →
      (∀ m : WindowId, m < n → windowMatches c.windows[m] r = false) →
      classify c r = (streamNamed c.windows[n].stream, allows c.windows[n].permission r.kind)) ∧
    ((∀ n : WindowId, windowMatches c.windows[n] r = false) →
      classify c r = (streamNamed c.global.missStream, decide (c.global.missPolicy ≠ 1)))) ∧
  (∀ kind : Kind, allows 0 kind = false ∧ allows 1 kind = decide (kind = .read) ∧
    allows 2 kind = decide (kind = .write) ∧ allows 3 kind = true)

/-- O9 (R7). In REGULATE the five checks run in their order, and the first that fails gives the single reason of the refusal; a
failed placement under STALL waits in WAIT_SLOT instead, and a request that passes all five is placed. -/
def Obligations.RegulatedRequestChecks : Prop :=
  ∀ (req : Request) (s : State), s.CanTake → s.cfg.regime = .regulate →
    let fresh := decide (pairOf req ∉ s.tagMap)
    let s' := if fresh then { s with tagMap := s.tagMap ++ [pairOf req] } else s
    let k := (classify s.cfg.active req).1
    exec (.requestTaken req) s = .next (finish s
      (if malformed req then refuse req fresh .span none s'
       else if fresh = false then refuse req fresh .duplicate none s'
       else if (classify s.cfg.active req).2 = false then refuse req fresh .window (some k) s'
       else if s.cfg.streamState[k] = .retiring then refuse req fresh .retired (some k) s'
       else if s.placementOk k then place req k s'
       else if (s.record k).overflow = 1 then refuse req fresh .full (some k) s'
       else { s' with
         stage := .waitSlot req fresh k s.now
         alm := { s.alm with globalStatus := s.alm.globalStatus ||| 0x10 } }))

/-- O10. The decision of a refusal (R14): what is counted, to whom (R123), which causes are raised (R160, R161), and the offer of
the refusal. -/
def Obligations.RefusalDecision : Prop :=
  ∀ (req : Request) (reg : Bool) (s : State),
    let up (n : Nat) := min 4294967295 (n + 1)
    let offered (r : Reason) := makeOffer { offerer := .stage, entry := refusalEntry req reg r }
    refuse req reg .span none s = offered .span
      { s with
        stage := .waitRefusal req reg none .span
        mon := { s.mon with span := up s.mon.span }
        alm := { s.alm with globalStatus := s.alm.globalStatus ||| 0x20 } } ∧
    refuse req reg .duplicate none s = offered .duplicate
      { s with
        stage := .waitRefusal req reg none .duplicate
        mon := { s.mon with duplicate := up s.mon.duplicate }
        alm := { s.alm with globalStatus := s.alm.globalStatus ||| 0x20 } } ∧
    ∀ k : StreamId,
      let a := s.mon.acc[k]
      let g := s.mon.gacc
      refuse req reg .window (some k) s = offered .window
        { s with
          stage := .waitRefusal req reg (some k) .window
          mon := { s.mon with
            acc := putAt s.mon.acc k { a with counts := { a.counts with window := up a.counts.window } }
            gacc := { g with counts := { g.counts with window := up g.counts.window } } }
          alm := { s.alm with status := putAt s.alm.status k (s.alm.status[k] ||| 0x20) } } ∧
      refuse req reg .retired (some k) s = offered .retired
        { s with
          stage := .waitRefusal req reg (some k) .retired
          mon := { s.mon with
            acc := putAt s.mon.acc k { a with counts := { a.counts with retired := up a.counts.retired } }
            gacc := { g with counts := { g.counts with retired := up g.counts.retired } } }
          alm := { s.alm with status := putAt s.alm.status k (s.alm.status[k] ||| 0x20) } } ∧
      refuse req reg .full (some k) s = offered .full
        { s with
          stage := .waitRefusal req reg (some k) .full
          mon := { s.mon with
            acc := putAt s.mon.acc k { a with counts := { a.counts with full := up a.counts.full } }
            gacc := { g with counts := { g.counts with full := up g.counts.full } } }
          alm := { s.alm with
            status := putAt s.alm.status k (s.alm.status[k] ||| 0x20)
            globalStatus := s.alm.globalStatus ||| 0x10 } }

/-- O11 (R66). A placement: the slot's fields, the acceptance counter, the guard count, the tail of the order and of the queue, the
peaks, the entry stage, and nothing else; with it the placement test (R65), and when two transactions conflict (R76): one
initiator, different streams, a byte that both ranges hold, and a WRITE among them. The occupancy of a stream counts its
transactions in the pool (R62), and the shared-in-use sums what each stream occupies above its reservation (R64). -/
def Obligations.PlacementTestAndEffect : Prop :=
  (∀ (s : State) (k : StreamId), s.placementOk k = true ↔
    s.used k < (s.record k).maxSlots.toNat ∧
      (s.used k < (s.record k).reserved.toNat ∨
        sharedInUse s.cfg.active s.pool < 64 - (allStreams.map fun j => (s.record j).reserved.toNat).sum) ∧
      ¬ ∃ h rest, s.pool = h :: rest ∧ h.acceptNo = s.acceptCtr) ∧
  (∀ (a b : Request) (j k : StreamId), conflicts a j b k = true ↔
    a.initiator = b.initiator ∧ j ≠ k ∧ (a.kind = .write ∨ b.kind = .write) ∧
      ∃ byte : Nat, a.address.toNat ≤ byte ∧ byte < a.address.toNat + a.beats.val * 16 ∧
        b.address.toNat ≤ byte ∧ byte < b.address.toNat + b.beats.val * 16) ∧
  (∀ (s : State) (k : StreamId), s.used k = (s.pool.filter fun h => decide (h.stream = k)).length) ∧
  (∀ (c : Settings) (pool : List Held), sharedInUse c pool = ((List.finRange 16).map fun k =>
    (pool.filter fun h => decide (h.stream = k)).length - c.streams[k].reserved.toNat).sum) ∧
  ∀ (req : Request) (k : StreamId) (s : State),
    let h : Held := { req := req, stream := k, acceptNo := s.acceptCtr, placedAt := s.now
                      guards := (s.pool.filter fun g => g.state == .waiting && conflicts g.req g.stream req k).length
                      state := .waiting }
    place req k s = { s with
      pool := s.pool ++ [h]
      acceptCtr := s.acceptCtr + 1
      stage := .empty
      mon := { s.mon with acc := (place req k s).mon.acc, gacc := (place req k s).mon.gacc } } ∧
    (∀ j : StreamId, (place req k s).mon.acc[j] =
      if j = k then { s.mon.acc[k] with counts := { s.mon.acc[k].counts with
        peak := max s.mon.acc[k].counts.peak (s.used k + 1) } }
      else s.mon.acc[j]) ∧
    (place req k s).mon.gacc = { s.mon.gacc with counts := { s.mon.gacc.counts with
      peak := max s.mon.gacc.counts.peak (s.pool.length + 1) } } ∧
    (s.queueHead k = none → (place req k s).queueHead k = some h)

/-- O12. A request that passes its checks outside REGULATE: in PASS it is issued at once to the lowest FREE entry with no stream, or
waits in WAIT_ISSUE (R15); in DRAINING it waits in WAIT_DRAIN (R17). PASS_ISSUE issues a waiting request when it can and else
changes nothing but the starved flags. A request offered to a stage that is not EMPTY, or under URST#, stays offered (R6): the
command changes nothing but the starved flags (log 1). -/
def Obligations.UnregulatedAndHeldOffRequests : Prop :=
  (∀ (req : Request) (s : State), s.CanTake → malformed req = false → pairOf req ∉ s.tagMap →
    let s' := { s with tagMap := s.tagMap ++ [pairOf req] }
    (s.cfg.regime = .pass → s.CanIssue → ∀ n, s.LowestFree n →
      exec (.requestTaken req) s = .next (finish s (sendDown n req none s'))) ∧
    (s.cfg.regime = .pass → ¬ (s.CanIssue ∧ ∃ n : EntryId, s.table[n] = .free) →
      exec (.requestTaken req) s = .next (finish s { s' with stage := .waitIssue req true })) ∧
    (s.cfg.regime = .draining → exec (.requestTaken req) s = .next (finish s { s' with stage := .waitDrain req true }))) ∧
  (∀ (req : Request) (s : State), s.Running → (s.pins.urst = true ∨ s.stage ≠ .empty) →
    exec (.requestTaken req) s = .next (finish s s)) ∧
  (∀ (req : Request) (reg : Bool) (s : State), s.stage = .waitIssue req reg →
    (s.cfg.regime = .pass → s.CanIssue → ∀ n, s.LowestFree n →
      exec .passIssue s = .next (finish s (sendDown n req none { s with stage := .empty }))) ∧
    (s.Running → ¬ (s.cfg.regime = .pass ∧ s.CanIssue ∧ ∃ n : EntryId, s.table[n] = .free) →
      exec .passIssue s = .next (finish s s))) ∧
  (∀ s : State, s.Running → (∀ req reg, s.stage ≠ .waitIssue req reg) → exec .passIssue s = .next (finish s s))

/-- O13. WAIT_SLOT (R12): PLACEMENT places the request when the repeated test passes; STALL_TIMEOUT refuses it FULL when the stall
timeout in force has run from the stall start. Otherwise neither changes anything but the starved flags. The repeated test that
other statements name is PLACEMENT's. -/
def Obligations.WaitSlotEvents : Prop :=
  (∀ (req : Request) (reg : Bool) (k : StreamId) (start : Nat) (s : State), s.Running → s.stage = .waitSlot req reg k start →
    (s.placementOk k = true → exec .placement s = .next (finish s (place req k s))) ∧
    (s.placementOk k = false → exec .placement s = .next (finish s s)) ∧
    (start + s.settings.stallTimeout.toNat * 100 ≤ s.now →
      exec .stallTimeout s = .next (finish s (refuse req reg .full (some k) s))) ∧
    (s.now < start + s.settings.stallTimeout.toNat * 100 → exec .stallTimeout s = .next (finish s s))) ∧
  (∀ s : State, s.Running → (∀ req reg k start, s.stage ≠ .waitSlot req reg k start) →
    exec .placement s = .next (finish s s) ∧ exec .stallTimeout s = .next (finish s s)) ∧
  ∀ s : State, s.Running → exec .placement s = .next (finish s (retestSlot s))

/-- O14. Offers (R21, R22): an offer is accepted at once when the list has a place and otherwise joins the tail of the waiting
order; what its acceptance does for each offerer, with LOST counted and raised (R107, R111, R124, R161); and OFFER_ACCEPTED accepts
the oldest. With it, how an event is counted to a stream or to none (R120), and how a change of the pool raises the peaks (R86). -/
def Obligations.OffersAndTheirAcceptance : Prop :=
  (∀ (o : Offer) (s : State),
    (s.localList.length < 8 → makeOffer o s = acceptOffer o s) ∧
    (8 ≤ s.localList.length → makeOffer o s = { s with offers := s.offers ++ [o] })) ∧
  (∀ (e : LocalEntry) (s : State),
    let s' := { s with localList := s.localList ++ [e] }
    acceptOffer { offerer := .stage, entry := e } s = { s' with stage := .empty } ∧
    (∀ p : TagPair, acceptOffer { offerer := .held p, entry := e } s =
      checkDrained (checkPoolEmpty (retestSlot
        (setPool (s.pool.filter fun h => h.state == .waiting || h.pair != p) s')))) ∧
    let lostOf (a : Acc) : Acc := { a with counts := { a.counts with lost := min 4294967295 (a.counts.lost + 1) } }
    let ended (n : EntryId) (f : Flight) (e : Entry) : State :=
      let u := countTo f.stream lostOf { s' with table := putAt s.table n e }
      { u with alm := { s.alm with globalStatus := s.alm.globalStatus ||| 0x02 } }
    (∀ (n : EntryId) (f : Flight), s.table[n] = .expiring f .timeout →
      acceptOffer { offerer := .inflight n, entry := e } s = checkDrained (ended n f (.quarantined f .timeout))) ∧
    (∀ (n : EntryId) (f : Flight), s.table[n] = .expiring f .dreset →
      acceptOffer { offerer := .inflight n, entry := e } s = checkDrained (ended n f .free))) ∧
  (∀ (f : Acc → Acc) (s : State),
    countTo none f s = { s with mon := { s.mon with gacc := f s.mon.gacc } } ∧
    ∀ k : StreamId, countTo (some k) f s =
      { s with mon := { s.mon with acc := putAt s.mon.acc k (f s.mon.acc[k]), gacc := f s.mon.gacc } }) ∧
  (∀ (pool : List Held) (s : State), setPool pool s = { s with pool := pool, mon := notePeaks s.pool pool s.mon }) ∧
  (∀ (before after : List Held) (m : Monitor),
    let used (pool : List Held) (k : StreamId) := (pool.filter fun h => decide (h.stream = k)).length
    let raised (x y : Nat) (a : Acc) : Acc :=
      if x = y then a else { a with counts := { a.counts with peak := max a.counts.peak (max x y) } }
    let t := notePeaks before after m
    t = { m with acc := t.acc, gacc := raised before.length after.length m.gacc } ∧
    ∀ k : StreamId, t.acc[k] = raised (used before k) (used after k) m.acc[k]) ∧
  (∀ s : State, s.Running →
    (∀ o rest, s.offers = o :: rest → s.localList.length < 8 →
      exec .offerAccepted s = .next (finish s (acceptOffer o { s with offers := rest }))) ∧
    ((s.offers = [] ∨ 8 ≤ s.localList.length) → exec .offerAccepted s = .next (finish s s)))

/-- O15. The drain reports: with an empty pool DRAINING becomes PASS and a request in WAIT_DRAIN goes on (R82); a drained RETIRING
stream becomes OFF in both copies, its windows invalid, and the miss policy DENY where it is the miss stream, and the slot is
DONE with OK (R191). Otherwise POOL_EMPTY and RETIREMENT_COMPLETION change nothing but the starved flags. The two reports that other
statements name are these commands'; ACTIVE and EXPIRING entries are resident (R100). -/
def Obligations.DrainReports : Prop :=
  (∀ s : State, s.Running →
    (s.cfg.regime = .draining → s.pool = [] →
      let s' := { s with cfg := { s.cfg with regime := .pass } }
      ((∀ req reg, s.stage ≠ .waitDrain req reg) → exec .poolEmpty s = .next (finish s s')) ∧
      (∀ req reg, s.stage = .waitDrain req reg →
        (s.CanIssue → ∀ n, s.LowestFree n →
          exec .poolEmpty s = .next (finish s (sendDown n req none { s' with stage := .empty }))) ∧
        (¬ (s.CanIssue ∧ ∃ n : EntryId, s.table[n] = .free) →
          exec .poolEmpty s = .next (finish s { s' with stage := .waitIssue req reg })))) ∧
    ((s.cfg.regime ≠ .draining ∨ s.pool ≠ []) → exec .poolEmpty s = .next (finish s s))) ∧
  (∀ (s : State) (k : StreamId), s.Running → s.pendingCode 0x04 = true → s.cfg.streamState[k] = .retiring →
    (∀ j : StreamId, s.cfg.streamState[j] = .retiring → j = k) →
    let drained := s.used k = 0 ∧ ∀ (n : EntryId) (t : Flight), s.table[n].resident = some t → t.stream ≠ some k
    (drained → exec .retirementCompletion s = .next (finish s { s with
      cfg := { s.cfg with
        streamState := putAt s.cfg.streamState k .off
        active := retireInCopy k s.cfg.active
        staged := retireInCopy k s.cfg.staged
        slot := { s.cfg.slot with state := .done, result := .ok } }
      alm := { s.alm with globalStatus := s.alm.globalStatus ||| 0x40 } })) ∧
    (¬ drained → exec .retirementCompletion s = .next (finish s s))) ∧
  (∀ s : State, s.Running → (s.pendingCode 0x04 = false ∨ ∀ k : StreamId, s.cfg.streamState[k] ≠ .retiring) →
    exec .retirementCompletion s = .next (finish s s)) ∧
  (∀ s : State, s.Running → exec .poolEmpty s = .next (finish s (checkPoolEmpty s)) ∧
    exec .retirementCompletion s = .next (finish s (checkDrained s))) ∧
  (∀ (e : Entry) (f : Flight), e.resident = some f ↔ (∃ l, e = .active f l) ∨ ∃ c, e = .expiring f c) ∧
  (∀ (s : State) (code : Byte), s.pendingCode code = true ↔ s.cfg.slot.state = .pending ∧ s.cfg.slot.code = code) ∧
  (∀ (k : StreamId) (c : Settings),
    (retireInCopy k c).global = (if c.global.missStream.toNat = k.val then { c.global with missPolicy := 1 } else c.global) ∧
    (∀ j : StreamId, (retireInCopy k c).streams[j] = if j = k then { c.streams[k] with stateRequest := 0 } else c.streams[j]) ∧
    ∀ n : WindowId, (retireInCopy k c).windows[n] =
      if c.windows[n].stream.toNat = k.val then { c.windows[n] with valid := false } else c.windows[n])

/-! ### Responses -/

/-- O16. The delivery of the downstream source (R23, R102), when it is the only one or the preferred one: the upstream response, the
tag map, the completion, the entry FREE, the preferred source LOCAL, and the test of a RETIRING stream's drain. -/
def Obligations.DownstreamDelivery : Prop :=
  ∀ (r : OfferedResponse) (t : Flight) (latency : Nat) (s : State), s.Running → s.pins.urst = false →
    s.downResp = some r → s.table[r.entry] = .active t (some latency) →
    (s.localList = [] ∨ s.preferred = .downstream) →
    let completed (a : Acc) : Acc :=
      { counts := { a.counts with
          completions := min 4294967295 (a.counts.completions + 1)
          latencyMax := max a.counts.latencyMax latency
          memfaults := if r.outcome = .memfault then min 4294967295 (a.counts.memfaults + 1) else a.counts.memfaults }
        latencySum := min (2 ^ 48 - 1) (a.latencySum + latency) }
    exec .responseDelivered s = .next (finish s (checkDrained { s with
      table := putAt s.table r.entry .free
      downResp := none
      preferred := .local
      tagMap := s.tagMap.filter (· ≠ t.pair)
      ports := { s.ports with upSent := s.ports.upSent ++
        [{ pair := t.pair
           outcome := if r.outcome = .memfault then .memfault else .okay
           data := if t.kind = .read ∧ r.outcome = .okay then some r.data else none }] }
      mon := { s.mon with
        acc := match t.stream with
          | some k => modAt s.mon.acc k completed
          | none => s.mon.acc
        gacc := completed s.mon.gacc } }))

/-- O17. The delivery of the local source (R19, R20, R21, R23): the head leaves the list and goes upstream without data, its pair
leaves the tag map when it is registered, the oldest waiting offer takes the place, and the preferred source becomes
DOWNSTREAM. Under URST#, or with nothing to deliver, nothing changes but the starved flags (R27). -/
def Obligations.LocalDelivery : Prop :=
  (∀ (e : LocalEntry) (rest : List LocalEntry) (s : State), s.Running → s.pins.urst = false → s.localList = e :: rest →
    (s.downResp = none ∨ s.preferred = .local) →
    let s' := { s with
      localList := rest
      preferred := .downstream
      tagMap := if e.registered then s.tagMap.filter (· ≠ e.pair) else s.tagMap
      ports := { s.ports with upSent := s.ports.upSent ++
        [{ pair := e.pair
           outcome := match e.outcome with
             | .denied r => .denied r
             | .lost => .lost
           data := none }] } }
    (s.offers = [] → exec .responseDelivered s = .next (finish s s')) ∧
    (∀ o os, s.offers = o :: os → rest.length < 8 →
      exec .responseDelivered s = .next (finish s (acceptOffer o { s' with offers := os })))) ∧
  (∀ s : State, s.Running → (s.pins.urst = true ∨ (s.downResp = none ∧ s.localList = [])) →
    exec .responseDelivered s = .next (finish s s))

/-- O18. The arrival of a response (R101, R103, R104), by the state of the entry that its tag names: matched and held with its
latency, or accepted and discarded as late, as a reset drain or as an orphan. Under DRST#, or while another response stands
offered, the port takes none (R3, R112): the command changes nothing (log 21). -/
def Obligations.ResponseArrivalTable : Prop :=
  (∀ (r : MemResponse) (s : State), s.Running → s.pins.drst = false → s.downResp = none →
    let orphaned := exec (.responseArrival r) s = .next (finish s { s with
      mon := { s.mon with orphan := min 4294967295 (s.mon.orphan + 1) }
      alm := { s.alm with globalStatus := s.alm.globalStatus ||| 0x04 } })
    (48 ≤ r.tag.val → orphaned) ∧
    ∀ n : EntryId, n.val = r.tag.val →
      let latency (t : Flight) : Nat :=
        min 65535 ((s.now : Int) - (t.issueTime : Int) - s.settings.latencyOffset.toInt).toNat
      let held (t : Flight) : State := { s with
        table := putAt s.table n (.active t (some (latency t)))
        downResp := some { entry := n, outcome := r.outcome, data := r.data } }
      (s.table[n] = .free → orphaned) ∧
      (∀ t, s.table[n] = .expiring t .dreset → orphaned) ∧
      (∀ t, s.table[n] = .active t none → exec (.responseArrival r) s = .next (finish s (held t))) ∧
      (∀ t, s.table[n] = .expiring t .timeout → exec (.responseArrival r) s = .next (finish s
        { held t with offers := s.offers.filter fun o => o.offerer != .inflight n })) ∧
      (∀ t, s.table[n] = .quarantined t .timeout → exec (.responseArrival r) s = .next (finish s
        (countTo t.stream (fun a => { a with counts := { a.counts with late := min 4294967295 (a.counts.late + 1) } })
          { s with table := putAt s.table n .free }))) ∧
      (∀ t, s.table[n] = .quarantined t .ureset → exec (.responseArrival r) s = .next (finish s
        (countTo t.stream (fun a => { a with counts := { a.counts with drain := min 4294967295 (a.counts.drain + 1) } })
          { s with table := putAt s.table n .free })))) ∧
  (∀ (r : MemResponse) (s : State), s.Running → (s.pins.drst = true ∨ s.downResp.isSome) →
    exec (.responseArrival r) s = .next (finish s s))

/-- O19. The expiry of a response timer (R106): the entry becomes EXPIRING(TIMEOUT) and a LOST response is offered; several that
expire in one event do so in ascending entry number; a timer that has not reached the timeout, or an entry that is not ACTIVE
without a response, is not touched (R105). The command names the entries of the one event (log 19). -/
def Obligations.ResponseTimerExpiry : Prop :=
  (∀ (n : EntryId) (t : Flight) (s : State), s.Running → s.table[n] = .active t none →
    (t.issueTime + s.settings.responseTimeout.toNat * 100 ≤ s.now →
      exec (.responseTimeout [n]) s = .next (finish s
        (makeOffer { offerer := .inflight n, entry := { pair := t.pair, outcome := .lost, registered := true } }
          { s with table := putAt s.table n (.expiring t .timeout) }))) ∧
    (s.now < t.issueTime + s.settings.responseTimeout.toNat * 100 → exec (.responseTimeout [n]) s = .next (finish s s))) ∧
  (∀ (n : EntryId) (s : State), s.Running → (∀ t, s.table[n] ≠ .active t none) →
    exec (.responseTimeout [n]) s = .next (finish s s)) ∧
  (∀ (who : List EntryId) (s : State), s.Running → ∃ due : List EntryId,
    (∀ n, n ∈ due ↔ n ∈ who ∧ ∃ t, s.table[n] = .active t none ∧
      t.issueTime + s.settings.responseTimeout.toNat * 100 ≤ s.now) ∧
    due.Pairwise (· < ·) ∧ exec (.responseTimeout who) s = .next (finish s (due.foldl expireEntry s)))

/-- O20. The expiry of a hold timer (R73): the transaction becomes EXPIRED where it stands, its guards are released (R78), STALE is
counted and raised, and its STALE refusal is offered; several that expire in one event do so in acceptance order; a timer that
has not reached a non-zero limit is not touched (R72). The command names the transactions of the one event (log 19). -/
def Obligations.HoldTimerExpiry : Prop :=
  (∀ (before : List Held) (h : Held) (after : List Held) (s : State), s.Running →
    s.pool = before ++ h :: after → h.state = .waiting → (∀ g ∈ before ++ after, g.pair ≠ h.pair) →
    (s.record h.stream).holdLimit ≠ 0 →
    let k := h.stream
    let a := s.mon.acc[k]
    let g := s.mon.gacc
    let released (t : Held) : Held :=
      if t.state = .waiting ∧ conflicts h.req h.stream t.req t.stream then { t with guards := t.guards - 1 } else t
    (h.placedAt + (s.record k).holdLimit.toNat * 100 ≤ s.now →
      exec (.holdTimeout [h.pair]) s = .next (finish s
        (makeOffer { offerer := .held h.pair, entry := staleEntry h.pair }
          { s with
            pool := before ++ { h with state := .expired } :: after.map released
            mon := { s.mon with
              acc := putAt s.mon.acc k { a with counts := { a.counts with stale := min 4294967295 (a.counts.stale + 1) } }
              gacc := { g with counts := { g.counts with stale := min 4294967295 (g.counts.stale + 1) } } }
            alm := { s.alm with status := putAt s.alm.status k (s.alm.status[k] ||| 0x10) } }))) ∧
    (s.now < h.placedAt + (s.record k).holdLimit.toNat * 100 → exec (.holdTimeout [h.pair]) s = .next (finish s s))) ∧
  (∀ (who : List TagPair) (s : State), s.Running →
    exec (.holdTimeout who) s = .next (finish s
      ((s.pool.filter fun h => decide (h.pair ∈ who ∧ h.state = .waiting ∧ (s.record h.stream).holdLimit ≠ 0 ∧
        h.placedAt + (s.record h.stream).holdLimit.toNat * 100 ≤ s.now)).foldl expireHeld s)))

/-! ### Arbitration, issue, refill, input levels -/

/-- O21 (R91). When the arbiter finds a stream eligible: the regime, a non-empty queue, a head without guards, and its budget. -/
def Obligations.EligibleStream : Prop :=
  ∀ (s : State) (k : StreamId), s.eligible k = true ↔
    (s.cfg.regime = .regulate ∨ s.cfg.regime = .draining) ∧
    ∃ before h after, s.pool = before ++ h :: after ∧ h.stream = k ∧ h.state = .waiting ∧
      (∀ g ∈ before, ¬ (g.stream = k ∧ g.state = .waiting)) ∧ h.guards = 0 ∧
      (classOf (s.record k) = .prot ∨ 0 ≤ s.accounts[k].balance ∨ s.cfg.regime = .draining)

/-- O22 (R94). When a PROTECTED stream is eligible, the grant goes to the first one met in ascending order from the stream after last
protected, wrapping, which becomes last protected; the other values stay. -/
def Obligations.ProtectedFirst : Prop :=
  ∀ (s : State) (k : StreamId), s.isProtected k = true → s.eligible k = true →
    (∀ j : StreamId, s.isProtected j = true → s.eligible j = true →
      (k - (s.arb.lastProtected + 1)).val ≤ (j - (s.arb.lastProtected + 1)).val) →
    s.grant = some (k, { s.arb with lastProtected := k })

/-- O23 (R95). When no PROTECTED stream is eligible, the current stream keeps its turn while it can; otherwise the first eligible
PACED or BULK stream met from the one after it begins a turn of its weight. With none eligible there is no grant. The model's
reading (log 24): whether a turn still runs is judged at the grant alone, so a current stream that was ineligible for a while, with
no grant of the weighted rotation made meanwhile, resumes its turn with the grants left. -/
def Obligations.WeightedRotation : Prop :=
  ∀ s : State, (∀ j : StreamId, ¬ (s.isProtected j = true ∧ s.eligible j = true)) →
    let running := s.isProtected s.arb.current = false ∧ s.eligible s.arb.current = true ∧ 0 < s.arb.grantsLeft
    (running → s.grant = some (s.arb.current, { s.arb with grantsLeft := s.arb.grantsLeft - 1 })) ∧
    (¬ running → ∀ k : StreamId, s.isProtected k = false → s.eligible k = true →
      (∀ j : StreamId, s.isProtected j = false → s.eligible j = true →
        (k - (s.arb.current + 1)).val ≤ (j - (s.arb.current + 1)).val) →
      s.grant = some (k, { s.arb with current := k, grantsLeft := (s.record k).weight.toNat - 1 })) ∧
    ((∀ j : StreamId, s.eligible j = false) → s.grant = none)

/-- O24 (R98). The issue event: the lowest FREE entry, the head leaving the pool (R81), the charge (R54), the entry's fields, the
record sent downstream (R2) and the issue counts (R121); then the freed slot is offered to a waiting request (R12), and the
pool's emptying in DRAINING is reported (R82). The head leaves its queue with its guards released (R78). When the conditions of R92 fail, no grant is made. The issue on the PASS path
is the same without the pool and the charge. -/
def Obligations.IssueEvent : Prop :=
  let issued (kind : Kind) (bytes : Nat) (a : Acc) : Acc := { a with counts := { a.counts with
    bytes := min 4294967295 (a.counts.bytes + bytes)
    reads := if kind = .read then min 4294967295 (a.counts.reads + 1) else a.counts.reads
    writes := if kind = .write then min 4294967295 (a.counts.writes + 1) else a.counts.writes } }
  let entry (s : State) (req : Request) (k : Option StreamId) : Entry :=
    .active { pair := pairOf req, stream := k, kind := req.kind, beats := req.beats, issueTime := s.now } none
  let sent (n : EntryId) (req : Request) : DownRequest :=
    { initiator := req.initiator, tag := n, kind := req.kind, address := req.address, beats := req.beats, data := req.data }
  (∀ (n : EntryId) (k : StreamId) (arb : Arbiter) (h : Held) (s : State), s.CanIssue → s.LowestFree n →
    s.grant = some (k, arb) → s.queueHead k = some h →
    let bytes := h.req.beats.val * 16
    let pool := leaveQueue (fun _ => []) h.pair s.pool
    let mon := notePeaks s.pool pool s.mon
    exec .issue s = .next (finish s (checkPoolEmpty (retestSlot { s with
      arb := arb
      pool := pool
      accounts :=
        if s.cfg.regime = .regulate ∧ s.isProtected k = false then
          putAt s.accounts k { s.accounts[k] with balance := s.accounts[k].balance - bytes }
        else s.accounts
      table := putAt s.table n (entry s h.req (some k))
      ports := { s.ports with downSent := s.ports.downSent ++ [sent n h.req] }
      mon := { mon with
        acc := modAt mon.acc k (issued h.req.kind bytes)
        gacc := issued h.req.kind bytes mon.gacc } })))) ∧
  (∀ s : State, s.Running → (¬ s.CanIssue ∨ (∀ n : EntryId, s.table[n] ≠ .free) ∨ s.grant = none) →
    exec .issue s = .next (finish s s)) ∧
  (∀ (before : List Held) (h : Held) (after : List Held), h.state = .waiting →
    (∀ g ∈ before, ¬ (g.state = .waiting ∧ g.pair = h.pair)) →
    leaveQueue (fun _ => []) h.pair (before ++ h :: after) = before ++ after.map fun t =>
      if t.state = .waiting ∧ conflicts h.req h.stream t.req t.stream = true then { t with guards := t.guards - 1 } else t) ∧
  (∀ (n : EntryId) (req : Request) (s : State), sendDown n req none s = { s with
    table := putAt s.table n (entry s req none)
    ports := { s.ports with downSent := s.ports.downSent ++ [sent n req] }
    mon := { s.mon with gacc := issued req.kind (req.beats.val * 16) s.mon.gacc } })

/-- O25 (R55). In REGULATE no command issues a transaction of a stream that is not PROTECTED while the stream's balance is below
zero: every entry that becomes ACTIVE belongs to no stream, to a PROTECTED one, or to one whose balance was 0 or more. -/
def Obligations.NoIssueBelowZero : Prop :=
  ∀ (c : Instr) (s t : State), exec c s = .next t → s.cfg.regime = .regulate →
    ∀ (n : EntryId) (u : Flight) (l : Option Nat) (k : StreamId), s.table[n] = .free → t.table[n] = .active u l →
      u.stream = some k → s.isProtected k = true ∨ 0 ≤ s.accounts[k].balance

/-- O26 (R52). A refill tick: every PACED or BULK stream that is ON or RETIRING gains its effective rate in REGULATE, up to its
ceiling; no other balance changes, and the next tick comes one refill period later. Before its time there is no tick (R50). -/
def Obligations.RefillTick : Prop :=
  ∀ s : State, s.Running →
    (s.refillDue ≤ s.now → ∃ accounts : Vector Account 16,
      exec .refillTick s = .next (finish s { s with
        accounts := accounts, refillDue := s.refillDue + s.settings.refillPeriod.toNat * 100 }) ∧
      ∀ k : StreamId, accounts[k] =
        if s.cfg.regime = .regulate ∧ classOf (s.record k) ≠ .prot ∧ s.cfg.streamState[k] ≠ .off then
          { s.accounts[k] with balance := min (s.accounts[k].balance + s.gov.rate[k]) (s.record k).ceiling.toNat }
        else s.accounts[k]) ∧
    (s.now < s.refillDue → exec .refillTick s = .next (finish s s))

/-- O27. The input levels: the end of URST# (R27), the end of DRST# (R112) and the memory controller's readiness (R92) move one
level each; after the last two, every stream that then meets the conditions of R56 has its starved flag set, and nothing else
changes. -/
def Obligations.InputLevels : Prop :=
  ∀ s : State,
    let marked (u : State) (c : Instr) : Prop := ∃ accounts : Vector Account 16,
      exec c s = .next { u with accounts := accounts } ∧
      ∀ k : StreamId, accounts[k] = if u.starving k then { s.accounts[k] with starved := true } else s.accounts[k]
    exec .urstDeassert s = .next { s with pins := { s.pins with urst := false } } ∧
    marked { s with pins := { s.pins with drst := false } } .drstDeassert ∧
    ∀ ready, marked { s with pins := { s.pins with downReady := ready } } (.downstreamPortReady ready)

/-! ### The epoch boundary -/

/-- O28. A publication (R126 to R131): the report, the sequence number, the zeroed accumulators, the starved flags, the watches of a
regulated publication (R132), and the epoch that begins (R117 to R119). Before the boundary there is none. Where the completions
stand at their top value the mean is the uncapped quotient: the model's choice (log 25). -/
def Obligations.PublicationEvent : Prop :=
  ∀ s : State, s.Running →
    let zero : Counts :=
      { bytes := 0, reads := 0, writes := 0, completions := 0, memfaults := 0, latencyMax := 0, window := 0, full := 0,
        stale := 0, retired := 0, lost := 0, late := 0, drain := 0, peak := 0 }
    (s.mon.epochEnd ≤ s.now → ∃ t : State, exec .publication s = .next (finish s t) ∧
      t = { s with mon := t.mon, accounts := t.accounts, alm := { s.alm with status := t.alm.status } } ∧
      (∀ k : StreamId,
        t.mon.acc[k] = { counts := zero, latencySum := 0 } ∧
        t.accounts[k] = { s.accounts[k] with starved := false } ∧
        t.mon.reports[k] =
          { counts := if s.mon.regulated then s.mon.acc[k].counts else zero
            mean := if s.mon.regulated ∧ s.mon.acc[k].counts.completions ≠ 0 then
                some (s.mon.acc[k].latencySum / s.mon.acc[k].counts.completions) else none
            effRate := s.gov.rate[k]
            balance := s.accounts[k].balance
            starved := s.accounts[k].starved } ∧
        t.mon.watches[k] =
          (if s.mon.regulated then judgeWatch (s.record k) s.cfg.streamState[k] t.mon.reports[k] s.mon.watches[k]
           else s.mon.watches[k]) ∧
        t.alm.status[k] = passWatch (s.record k) s.mon.watches[k] t.mon.watches[k] s.alm.status[k]) ∧
      t.mon = { s.mon with
        epochStart := s.mon.epochEnd
        epochEnd := s.mon.epochEnd + s.settings.epochLength.toNat * 10000
        epochLen := s.settings.epochLength.toNat
        regulated := s.cfg.regime == .regulate
        adjustDue := true
        seq := s.mon.seq + 1
        acc := t.mon.acc
        gacc := { counts := zero, latencySum := 0 }
        span := 0
        duplicate := 0
        orphan := 0
        discard := 0
        reports := t.mon.reports
        greport :=
          { regulated := s.mon.regulated, epochLength := s.mon.epochLen, counts := s.mon.gacc.counts
            mean := if s.mon.gacc.counts.completions = 0 then none
              else some (s.mon.gacc.latencySum / s.mon.gacc.counts.completions)
            span := s.mon.span, duplicate := s.mon.duplicate, orphan := s.mon.orphan, discard := s.mon.discard }
        watches := t.mon.watches }) ∧
    (s.now < s.mon.epochEnd → exec .publication s = .next (finish s s))

/-- O29 (R133, R134). The judgement of a stream's watches: both rate conditions anew from the bytes of one epoch; the latency watch by
its over-limit, release limit and fault count; an OFF stream's watches CLEAR (R132). -/
def Obligations.WatchJudgement : Prop :=
  (∀ (r : StreamRecord) (st : StreamState) (rep : StreamReport) (w : Watch), st ≠ .off →
    let j := judgeWatch r st rep w
    (j.high = true ↔ r.rateHigh.toNat ≠ 0 ∧ r.rateHigh.toNat * 256 < rep.counts.bytes) ∧
    (j.low = true ↔ r.rateLow.toNat ≠ 0 ∧ rep.counts.bytes < r.rateLow.toNat * 256) ∧
    (r.rateHigh.toNat ≠ 0 → r.rateLow.toNat ≠ 0 → r.rateLow.toNat ≤ r.rateHigh.toNat → ¬ (j.high = true ∧ j.low = true)) ∧
    (r.latencyOver.toNat = 0 → j.latency = false ∧ j.fault = 0) ∧
    (r.latencyOver.toNat ≠ 0 → rep.mean = none → j.latency = w.latency ∧ j.fault = w.fault) ∧
    (∀ m, r.latencyOver.toNat ≠ 0 → rep.mean = some m → w.latency = false → r.latencyOver.toNat < m →
      (r.faultCount.toNat ≤ w.fault + 1 → j.latency = true ∧ j.fault = 0) ∧
      (w.fault + 1 < r.faultCount.toNat → j.latency = false ∧ j.fault = w.fault + 1)) ∧
    (∀ m, r.latencyOver.toNat ≠ 0 → rep.mean = some m → w.latency = false → m ≤ r.latencyOver.toNat →
      j.latency = false ∧ j.fault = 0) ∧
    (∀ m, r.latencyOver.toNat ≠ 0 → rep.mean = some m → w.latency = true →
      (m < r.latencyRelease.toNat → j.latency = false ∧ j.fault = 0) ∧
      (r.latencyRelease.toNat ≤ m → j.latency = true ∧ j.fault = w.fault)) ∧
    (w.fault < r.faultCount.toNat → (w.latency = true → w.fault = 0) →
      j.fault < r.faultCount.toNat ∧ (j.latency = true → j.fault = 0))) ∧
  (∀ (r : StreamRecord) (rep : StreamReport) (w : Watch),
    judgeWatch r .off rep w = { high := false, low := false, latency := false, fault := 0 })

/-- O30 (R162). What a watch transition does to the status of its cause under each mode, and what an ACK that names the status does;
an item that does not change passes nothing, and no transition touches another cause. The three items of a stream pass theirs
(R135), each under the mode of its watch, and a cause stands at its bit of R207. -/
def Obligations.WatchModeTable : Prop :=
  (∀ (m : WatchMode) (c d : StreamCause) (v : BitVec 6),
    hasCause (passTransition m true c v) c = true ∧
    hasCause (passTransition m false c v) c = (match m with
      | .level => false
      | .trip => hasCause v c
      | .both => true) ∧
    (d ≠ c → ∀ tripped, hasCause (passTransition m tripped c v) d = hasCause v d) ∧
    ∀ b, passChange m b b c v = v ∧ passChange m b (!b) c v = passTransition m (!b) c v) ∧
  (∀ (r : StreamRecord) (x y : Watch) (v : BitVec 6),
    let u := passWatch r x y v
    hasCause u .rateHigh = hasCause (passChange (watchModeOf r.rateMode) x.high y.high .rateHigh v) .rateHigh ∧
    hasCause u .rateLow = hasCause (passChange (watchModeOf r.rateMode) x.low y.low .rateLow v) .rateLow ∧
    hasCause u .latency = hasCause (passChange (watchModeOf r.latencyMode) x.latency y.latency .latency v) .latency ∧
    ∀ c, c = .targetMiss ∨ c = .stale ∨ c = .denied → hasCause u c = hasCause v c) ∧
  (∀ (v : BitVec 6) (c : StreamCause), hasCause v c = v.getLsbD (match c with
    | .rateHigh => 0
    | .rateLow => 1
    | .latency => 2
    | .targetMiss => 3
    | .stale => 4
    | .denied => 5)) ∧
  (∀ (arg2 : Byte) (r : StreamRecord) (v : BitVec 6),
    (arg2.getLsbD 0 = true → hasCause (ackStream arg2 r v) .rateHigh =
      (decide (watchModeOf r.rateMode = .level) && hasCause v .rateHigh)) ∧
    (arg2.getLsbD 1 = true → hasCause (ackStream arg2 r v) .rateLow =
      (decide (watchModeOf r.rateMode = .level) && hasCause v .rateLow)) ∧
    (arg2.getLsbD 2 = true → hasCause (ackStream arg2 r v) .latency =
      (decide (watchModeOf r.latencyMode = .level) && hasCause v .latency)))

/-- O31. The adjustment (R140, R147, R149, R151): when it acts it samples HOT, judges the pressure state, and in NORMAL without an
entry makes the mode adjustments; when it does not act, or none is due, it changes nothing of the governor. The level of HOT
stands in its pin (log 8), and the adjustment is no longer due. -/
def Obligations.AdjustmentEvent : Prop :=
  ∀ (hot : Bool) (s : State), s.Running →
    let s' := { s with pins := { s.pins with hot := hot }, mon := { s.mon with adjustDue := false } }
    let filter := if hot then min 4 (s.gov.hotFilter + 1) else 0
    let sampled := { s' with gov := { s.gov with hotFilter := filter } }
    let mean := s.mon.greport.mean
    let acts := s.mon.greport.regulated = true ∧ s.cfg.regime = .regulate
    (s.mon.adjustDue = false → exec (.adjustment hot) s = .next (finish s s)) ∧
    (s.mon.adjustDue = true → ¬ acts → exec (.adjustment hot) s = .next (finish s s')) ∧
    (s.mon.adjustDue = true → acts → s.gov.pressure = .normal →
      let entry := s.settings.hotFilter.toNat ≤ filter ∨ critical s.settings mean = true
      (¬ entry → exec (.adjustment hot) s = .next (finish s (adjustModes mean sampled))) ∧
      (entry → ∃ rate : Vector Nat 16,
        exec (.adjustment hot) s = .next (finish s { sampled with
          gov := { sampled.gov with pressure := .emergency, rate := rate }
          alm := { s.alm with globalStatus := s.alm.globalStatus ||| 0x01 } }) ∧
        ∀ k : StreamId, rate[k] = match classOf (s.record k) with
          | .prot => s.gov.rate[k]
          | .paced => (s.record k).floor.toNat
          | .bulk => 0)) ∧
    (s.mon.adjustDue = true → acts → s.gov.pressure = .emergency →
      let exit := hot = false ∧ criticalRelease s.settings mean = true
      (¬ exit → exec (.adjustment hot) s = .next (finish s sampled)) ∧
      (exit → ∃ rate : Vector Nat 16,
        exec (.adjustment hot) s = .next (finish s { sampled with
          gov := { sampled.gov with pressure := .normal, rate := rate } }) ∧
        ∀ k : StreamId, rate[k] =
          if (s.record k).mode = 0 then (s.record k).configured.toNat else (s.record k).floor.toNat))

/-- O32 (R148). The critical condition and the critical release condition, on the published global mean. -/
def Obligations.CriticalConditions : Prop :=
  ∀ (g : GlobalSettings) (mean : Option Nat),
    (critical g mean = true ↔ g.criticalLimit.toNat ≠ 0 ∧ ∃ m, mean = some m ∧ g.criticalLimit.toNat < m) ∧
    (criticalRelease g mean = true ↔
      g.criticalLimit.toNat = 0 ∨ mean = none ∨ ∃ m, mean = some m ∧ m ≤ g.criticalRelease.toNat)

/-- O33 (R142, R143). The mode adjustments: FIXED keeps its rate (R141); RAMP follows the published starved flag; CRUISE follows the
published global mean against its dead band; an OFF stream keeps its rate with its counter 0 (R144); and a CRUISE stream at its
floor above the band counts a target miss, which is reported when the count is reached (R145, R146). Nothing else changes. -/
def Obligations.ModeAdjustments : Prop :=
  ∀ (mean : Option Nat) (s : State) (k : StreamId),
    let t := adjustModes mean s
    let g := s.settings
    let r := s.record k
    let rate := s.gov.rate[k]
    let up := min (rate + r.step.toNat) r.maxRate.toNat
    let down := max (rate - r.step.toNat) r.floor.toNat
    let above (m : Nat) := g.cruiseTarget.toNat + g.cruiseTolerance.toNat < m
    let below (m : Nat) := m < g.cruiseTarget.toNat - g.cruiseTolerance.toNat
    let reported := hasCause t.alm.status[k] .targetMiss
    let standing := hasCause s.alm.status[k] .targetMiss
    t = { s with
      gov := { s.gov with rate := t.gov.rate, miss := t.gov.miss }
      alm := { s.alm with status := t.alm.status } } ∧
    (∀ c : StreamCause, c ≠ .targetMiss → hasCause t.alm.status[k] c = hasCause s.alm.status[k] c) ∧
    (s.cfg.streamState[k] = .off → t.gov.rate[k] = rate ∧ t.gov.miss[k] = 0 ∧ reported = standing) ∧
    (s.cfg.streamState[k] ≠ .off →
      (modeOf r = .fixed → t.gov.rate[k] = rate ∧ t.gov.miss[k] = 0 ∧ reported = standing) ∧
      (modeOf r = .ramp →
        t.gov.rate[k] = (if s.mon.reports[k].starved then up else down) ∧ t.gov.miss[k] = 0 ∧ reported = standing) ∧
      (modeOf r = .cruise → mean = none →
        t.gov.rate[k] = rate ∧ t.gov.miss[k] = s.gov.miss[k] ∧ reported = standing) ∧
      (∀ m, modeOf r = .cruise → mean = some m →
        (above m → t.gov.rate[k] = down ∧
          (rate ≠ r.floor.toNat → t.gov.miss[k] = 0 ∧ reported = standing) ∧
          (rate = r.floor.toNat → s.gov.miss[k] + 1 < g.missCount.toNat →
            t.gov.miss[k] = s.gov.miss[k] + 1 ∧ reported = standing) ∧
          (rate = r.floor.toNat → g.missCount.toNat ≤ s.gov.miss[k] + 1 → t.gov.miss[k] = 0 ∧ reported = true)) ∧
        (below m → t.gov.rate[k] = up ∧ t.gov.miss[k] = 0 ∧ reported = standing) ∧
        (¬ above m → ¬ below m → t.gov.rate[k] = rate ∧ t.gov.miss[k] = 0 ∧ reported = standing)))

/-- O34. The commit event (R185 to R187): without a PENDING COMMIT whose boundary has come it changes nothing but the starved flags;
a boundary check that fails refuses the COMMIT OCCUPIED with its place, first by max slots, then by state request, then by
reservations (R186); otherwise the staged copy becomes active, the stream states follow their requests, the slot is DONE with
OK, and the regime follows the table of R178, but that an expiry in the event may already have emptied the pool of DRAINING
(R82). The boundary is the one the slot holds (log 9). The parts of an applied commit, in the model's order (log 11): first the
settings, with COMMAND raised (R187), the epoch in progress when the publication of the boundary has already been taken (R118,
R119), the watches (R136) and their statuses (R163), while the arbiter's values (R96), the tag map, the masks, the acceptance
counter and all else stay; then the request in the entry stage (R13, R16, R17); then the held transactions that a changed hold
limit expires in the commit event (R72, log 22), in acceptance order; then the in-flight entries that a changed response timeout
expires there (R105, log 22), in ascending number. The accounts, the refill timer and the governor are O35's. -/
def Obligations.CommitEventOutcome : Prop :=
  (∀ s : State, s.Running → (s.pendingCode 0x01 = false ∨ s.now < s.cfg.slot.judgeAt) →
    exec .commitEvent s = .next (finish s s)) ∧
  (∀ s : State, s.Running → s.pendingCode 0x01 = true → s.cfg.slot.judgeAt ≤ s.now →
    let c := s.cfg.staged
    let tooMany (k : StreamId) := c.streams[k].maxSlots.toNat < s.used k
    let busyOff (k : StreamId) := s.cfg.streamState[k] = .on ∧ requestsOn c.streams[k] = false ∧ 0 < s.used k
    let overfull := 64 - reservedTotal c < (allStreams.map fun k => s.used k - c.streams[k].reserved.toNat).sum
    let refused (d : Detail) : State := { s with
      cfg := { s.cfg with slot := { s.cfg.slot with state := .refused, result := .occupied, detail := d } }
      alm := { s.alm with globalStatus := s.alm.globalStatus ||| 0x40 } }
    (boundaryFailure s = none → (∀ j, ¬ tooMany j) ∧ ∀ j, ¬ busyOff j) ∧
    (∀ k, tooMany k → (∀ j, j < k → ¬ tooMany j) → exec .commitEvent s = .next (finish s (refused (.stream k)))) ∧
    ((∀ j, ¬ tooMany j) →
      (∀ k, busyOff k → (∀ j, j < k → ¬ busyOff j) → exec .commitEvent s = .next (finish s (refused (.stream k)))) ∧
      ((∀ j, ¬ busyOff j) →
        (overfull → exec .commitEvent s = .next (finish s (refused .global))) ∧
        (boundaryFailure s = none ↔ ¬ overfull) ∧
        (¬ overfull → ∃ t : State, exec .commitEvent s = .next t ∧
          t.cfg.active = c ∧ t.cfg.staged = c ∧ t.cfg.reqArgs = s.cfg.reqArgs ∧
          t.cfg.slot = { s.cfg.slot with state := .done, result := .ok, detail := .none } ∧
          (∀ k : StreamId, t.cfg.streamState[k] = if requestsOn c.streams[k] then .on else .off) ∧
          let asked := c.global.regimeRequest = 1
          (asked → t.cfg.regime = .regulate) ∧
          (¬ asked → s.cfg.regime = .pass → t.cfg.regime = .pass) ∧
          (¬ asked → s.cfg.regime = .regulate → s.pool = [] → t.cfg.regime = .pass) ∧
          (¬ asked → s.RegimeSound → s.cfg.regime = .regulate → s.pool ≠ [] →
            t.cfg.regime = .draining ∨ (t.cfg.regime = .pass ∧ t.pool = [])) ∧
          (¬ asked → s.RegimeSound → s.cfg.regime = .draining →
            t.cfg.regime = .draining ∨ (t.cfg.regime = .pass ∧ t.pool = [])))))) ∧
  ∀ s : State, s.Running → s.pendingCode 0x01 = true → s.cfg.slot.judgeAt ≤ s.now → boundaryFailure s = none →
    let c := s.cfg.staged
    let old := s.cfg.active
    let asked := c.global.regimeRequest = 1
    let after : Regime :=
      if asked then .regulate
      else if s.cfg.regime = .regulate then (if s.pool = [] then .pass else .draining)
      else s.cfg.regime
    ∃ (u v w : State) (holds : List Held) (late : List EntryId),
      exec .commitEvent s = .next (finish s (late.foldl expireEntry w)) ∧
      -- the settings, the epoch, the watches and their statuses
      u = { s with
        accounts := u.accounts
        refillDue := u.refillDue
        gov := u.gov
        mon := { s.mon with
          watches := u.mon.watches
          epochLen := if s.now < s.mon.epochEnd then c.global.epochLength.toNat else s.mon.epochLen
          epochEnd :=
            if s.now < s.mon.epochEnd then s.mon.epochStart + c.global.epochLength.toNat * 10000 else s.mon.epochEnd
          regulated := if s.now < s.mon.epochEnd then decide (after = .regulate) else s.mon.regulated }
        alm := { s.alm with status := u.alm.status, globalStatus := s.alm.globalStatus ||| 0x40 }
        cfg := { s.cfg with
          active := c
          streamState := u.cfg.streamState
          regime := after
          slot := { s.cfg.slot with state := .done, result := .ok, detail := .none } } } ∧
      (∀ k : StreamId,
        let o := old.streams[k]
        let r := c.streams[k]
        let rateReset := o.rateHigh ≠ r.rateHigh ∨ o.rateLow ≠ r.rateLow ∨ o.rateMode ≠ r.rateMode
        let latencyReset := o.latencyOver ≠ r.latencyOver ∨ o.latencyRelease ≠ r.latencyRelease ∨
          o.faultCount ≠ r.faultCount ∨ o.latencyMode ≠ r.latencyMode
        let before := s.mon.watches[k]
        let status (reset newMode : Prop) (m : WatchMode) (tripped : Bool) (cause : StreamCause) : Prop :=
          (newMode → m = .level → hasCause u.alm.status[k] cause = false) ∧
          (¬ (newMode ∧ m = .level) → (tripped = false ∨ ¬ reset) →
            hasCause u.alm.status[k] cause = hasCause s.alm.status[k] cause) ∧
          (tripped = true → reset → hasCause u.alm.status[k] cause = match m with
            | .level => false
            | .trip => hasCause s.alm.status[k] cause
            | .both => true)
        u.cfg.streamState[k] = (if requestsOn r then .on else .off) ∧
        (rateReset → u.mon.watches[k].high = false ∧ u.mon.watches[k].low = false) ∧
        (¬ rateReset → u.mon.watches[k].high = before.high ∧ u.mon.watches[k].low = before.low) ∧
        (latencyReset → u.mon.watches[k].latency = false ∧ u.mon.watches[k].fault = 0) ∧
        (¬ latencyReset → u.mon.watches[k].latency = before.latency ∧ u.mon.watches[k].fault = before.fault) ∧
        status rateReset (o.rateMode ≠ r.rateMode) (watchModeOf r.rateMode) before.high .rateHigh ∧
        status rateReset (o.rateMode ≠ r.rateMode) (watchModeOf r.rateMode) before.low .rateLow ∧
        status latencyReset (o.latencyMode ≠ r.latencyMode) (watchModeOf r.latencyMode) before.latency .latency ∧
        ∀ cause, cause = .targetMiss ∨ cause = .stale ∨ cause = .denied →
          hasCause u.alm.status[k] cause = hasCause s.alm.status[k] cause) ∧
      -- the request in the entry stage
      (let checks (req : Request) (reg : Bool) : State :=
        let k := (classify c req).1
        if (classify c req).2 = false then refuse req reg .window (some k) u
        else if u.placementOk k then place req k u
        else if c.streams[k].overflow = 1 then refuse req reg .full (some k) u
        else { u with
          stage := .waitSlot req reg k s.now
          alm := { u.alm with globalStatus := u.alm.globalStatus ||| 0x10 } }
      (∀ req reg k start, s.stage = .waitSlot req reg k start →
        (s.cfg.regime = .regulate → asked → v =
          if requestsOn c.streams[k] = false then refuse req reg .window (some k) u
          else if u.placementOk k then place req k u
          else if c.streams[k].overflow = 1 then refuse req reg .full (some k) u
          else u) ∧
        (s.cfg.regime = .regulate → ¬ asked → s.pool ≠ [] → v = { u with stage := .waitDrain req reg }) ∧
        (s.cfg.regime = .regulate → ¬ asked → s.pool = [] →
          (s.CanIssue → ∀ n, s.LowestFree n → v = sendDown n req none { u with stage := .empty }) ∧
          (¬ (s.CanIssue ∧ ∃ n : EntryId, s.table[n] = .free) → v = { u with stage := .waitIssue req reg }))) ∧
      (∀ req reg, s.stage = .waitIssue req reg →
        (s.cfg.regime = .pass → asked → v = checks req reg) ∧ (¬ asked → v = u)) ∧
      (∀ req reg, s.stage = .waitDrain req reg →
        (s.cfg.regime = .draining → asked → v = checks req reg) ∧ (¬ asked → v = u)) ∧
      ((s.stage = .empty ∨ ∃ req reg k r, s.stage = .waitRefusal req reg k r) → v = u)) ∧
      -- the held transactions and the in-flight entries that a changed limit expires
      holds = v.pool.filter (fun h => decide (h.state = .waiting ∧
        old.streams[h.stream].holdLimit ≠ c.streams[h.stream].holdLimit ∧ c.streams[h.stream].holdLimit ≠ 0 ∧
        h.placedAt + c.streams[h.stream].holdLimit.toNat * 100 ≤ s.now)) ∧
      w = holds.foldl expireHeld v ∧
      late.Pairwise (· < ·) ∧
      ∀ n, n ∈ late ↔ old.global.responseTimeout ≠ c.global.responseTimeout ∧
        ∃ f, w.table[n] = .active f none ∧ f.issueTime + c.global.responseTimeout.toNat * 100 ≤ s.now

/-- O35. What an applied commit does to the accounts (R48, R57, R59, R60), the refill timer (R50) and the governor (R150, R152, R153,
R155): the values of a stream after the commit event, by the regime before and after the commit and the old and new records. A
stream that is not PROTECTED keeps its starved flag as it stood, SET or clear, unless it meets the conditions of R56 after the
event. -/
def Obligations.CommitAccountsAndRates : Prop :=
  ∀ (s t : State) (k : StreamId), s.Running → s.pendingCode 0x01 = true → s.cfg.slot.judgeAt ≤ s.now →
    boundaryFailure s = none → exec .commitEvent s = .next t →
    let old := s.cfg.active.streams[k]
    let new := s.cfg.staged.streams[k]
    let was := s.cfg.regime = .regulate
    let asked := s.cfg.staged.global.regimeRequest = 1
    let a := s.accounts[k]
    let ceiling : Int := new.ceiling.toNat
    let start := new.configured.toNat
    let touched := old.mode ≠ new.mode ∨ old.configured ≠ new.configured ∨ old.floor ≠ new.floor ∨ old.maxRate ≠ new.maxRate
    let retargeted := s.settings.cruiseTarget ≠ s.cfg.staged.global.cruiseTarget ∨
      s.settings.cruiseTolerance ≠ s.cfg.staged.global.cruiseTolerance ∨
      s.settings.missCount ≠ s.cfg.staged.global.missCount
    t.refillDue = (if s.settings.refillPeriod = s.cfg.staged.global.refillPeriod then s.refillDue
      else s.now + s.cfg.staged.global.refillPeriod.toNat * 100) ∧
    (classOf new = .prot → t.accounts[k] = { balance := 0, starved := false }) ∧
    (classOf new ≠ .prot →
      (t.accounts[k].balance =
        if classOf old = .prot ∨ (¬ was ∧ asked) ∨ (was ∧ asked ∧ s.cfg.streamState[k] = .off ∧ requestsOn new = true)
        then ceiling else min a.balance ceiling) ∧
      t.accounts[k].starved = (a.starved || t.starving k)) ∧
    ((was ↔ ¬ asked) →
      t.gov.pressure = .normal ∧ t.gov.hotFilter = 0 ∧ t.gov.miss[k] = 0 ∧ t.gov.rate[k] = start) ∧
    ((was ↔ asked) →
      t.gov.pressure = s.gov.pressure ∧ t.gov.hotFilter = s.gov.hotFilter ∧
      t.gov.miss[k] = (if retargeted ∨ touched then 0 else s.gov.miss[k]) ∧
      (s.gov.pressure = .normal → t.gov.rate[k] = if touched then start else s.gov.rate[k]) ∧
      (s.gov.pressure = .emergency → t.gov.rate[k] = match classOf new with
        | .bulk => 0
        | .paced => new.floor.toNat
        | .prot => if touched ∨ classOf old ≠ .prot then start else s.gov.rate[k]))

/-! ### The reset inputs -/

/-- O36. RESET# (R25, R43, R61, R88, R93, R114, R131, R137, R156, R173, R177, R197): at its assertion every block takes its power-on
state and every transaction is dropped without a response, whatever stood before; the input levels and the queue stand. At its
deassertion the time base, the epoch timer and the refill timer start, the straps are sampled, and the rates take their start
values (R50, R116, R117, R156). The settings are written out: stream records (R44), window entries (R43), global settings (R176).
The model's reading, not a rule's: that every effective rate is 4096 already at the assertion (log 16), that the slot's argument
bytes and the request argument fields are 0 (log 7), as is the boundary the slot holds (log 9), and that a deassertion changes
nothing when RESET# is not asserted (log 23). -/
def Obligations.DeviceReset : Prop :=
  (∀ s : State, ∃ t : State, exec .resetAssert s = .next t ∧
    let zero : Counts :=
      { bytes := 0, reads := 0, writes := 0, completions := 0, memfaults := 0, latencyMax := 0, window := 0, full := 0,
        stale := 0, retired := 0, lost := 0, late := 0, drain := 0, peak := 0 }
    let record (k : StreamId) : StreamRecord :=
      { stateRequest := if k = 0 then 1 else 0, cls := 1, weight := 1, mode := 0, configured := 4096, floor := 0,
        maxRate := 4096, step := 16, ceiling := 4096, reserved := 0, maxSlots := 64, overflow := 0, faultCount := 1,
        holdLimit := 1000, rateMode := 0, latencyMode := 0, rateHigh := 0, rateLow := 0, latencyOver := 0,
        latencyRelease := 0 }
    let window : WindowEntry :=
      { valid := false, matchRange := false, stream := 0, permission := 0, low := 0, high := 0, base := 0, limit := 0 }
    let settings : GlobalSettings :=
      { regimeRequest := 0, missPolicy := 0, missStream := 0, hotFilter := 2, epochLength := 10, refillPeriod := 1,
        missCount := 8, stallTimeout := 100, responseTimeout := 2000, latencyOffset := 0, quarantineThreshold := 8,
        cruiseTarget := 100, cruiseTolerance := 10, criticalLimit := 0, criticalRelease := 0 }
    let noArgs : Vector Byte 3 := Vector.replicate 3 0
    t.pins = { s.pins with reset := true } ∧ t.pending = s.pending ∧
    t.stage = .empty ∧ t.tagMap = [] ∧ t.localList = [] ∧ t.offers = [] ∧ t.preferred = .downstream ∧
    t.pool = [] ∧ t.acceptCtr = 0 ∧ t.arb = { lastProtected := 15, current := 15, grantsLeft := 0 } ∧
    (∀ n : EntryId, t.table[n] = .free) ∧ t.downResp = none ∧
    (∀ k : StreamId, t.accounts[k] = { balance := 0, starved := false } ∧
      t.cfg.streamState[k] = (if k = 0 then .on else .off) ∧
      t.cfg.active.streams[k] = record k ∧ t.cfg.staged.streams[k] = record k ∧
      t.mon.acc[k] = { counts := zero, latencySum := 0 } ∧
      t.mon.reports[k] = { counts := zero, mean := none, effRate := 0, balance := 0, starved := false } ∧
      t.mon.watches[k] = { high := false, low := false, latency := false, fault := 0 } ∧
      t.gov.rate[k] = 4096 ∧ t.gov.miss[k] = 0 ∧ t.alm.status[k] = 0 ∧ t.alm.mask[k] = 0x3F) ∧
    (∀ n : WindowId, t.cfg.active.windows[n] = window ∧ t.cfg.staged.windows[n] = window) ∧
    t.cfg.active.global = settings ∧ t.cfg.staged.global = settings ∧
    t.cfg.regime = .pass ∧ t.cfg.reqArgs = noArgs ∧
    t.cfg.slot = { code := 0, args := noArgs, state := .idle, result := .none, detail := .none, discarded := 0, judgeAt := 0 } ∧
    t.mon.gacc = { counts := zero, latencySum := 0 } ∧ t.mon.span = 0 ∧ t.mon.duplicate = 0 ∧ t.mon.orphan = 0 ∧ t.mon.discard = 0 ∧
    t.mon.seq = 0 ∧ t.mon.regulated = false ∧ t.mon.adjustDue = false ∧
    t.mon.greport = { regulated := false, epochLength := 0, counts := zero, mean := none, span := 0, duplicate := 0,
                      orphan := 0, discard := 0 } ∧
    t.gov.pressure = .normal ∧ t.gov.hotFilter = 0 ∧
    t.alm.globalStatus = 0 ∧ t.alm.globalMask = 0x7F ∧ t.alm.hold = false ∧
    t.link.page = 0 ∧ t.link.offset = 0 ∧ t.link.state = .idle ∧ t.link.readLatch = none ∧ t.link.writeLatch = none) ∧
  (∀ (straps : BitVec 2) (s : State), s.pins.reset = false → exec (.resetDeassert straps) s = .next s) ∧
  (∀ (straps : BitVec 2) (s : State), s.pins.reset = true → ∃ rate : Vector Nat 16,
    exec (.resetDeassert straps) s = .next { s with
      now := 0
      pins := { s.pins with reset := false }
      refillDue := s.settings.refillPeriod.toNat * 100
      gov := { s.gov with rate := rate }
      link := { s.link with straps := straps }
      mon := { s.mon with
        epochStart := 0
        epochLen := s.settings.epochLength.toNat
        epochEnd := s.settings.epochLength.toNat * 10000
        regulated := s.cfg.regime == .regulate } } ∧
    ∀ k : StreamId, rate[k] = (s.record k).configured.toNat)

/-- O37. URST# (R26, R86, R89, R113, R124, R137): the upstream side and the pool are emptied without a response, and each in-flight
entry changes as its state says. The held responses that it discards count as reset drains, to their streams and globally; the
peaks of the streams whose slots it frees, and that of the pool, take the occupancy before it; every dropped transaction counts as
one reset discard; and every other count is kept. Then the emptied pool may end DRAINING (R82) and complete a retirement (R84). -/
def Obligations.UpstreamReset : Prop :=
  ∀ s : State, s.Running → ∃ t : State, exec .urstAssert s = .next (finish s (checkDrained (checkPoolEmpty t))) ∧
    t = { s with
      pins := { s.pins with urst := true }
      stage := .empty
      tagMap := []
      localList := []
      offers := []
      preferred := .downstream
      pool := []
      table := t.table
      downResp := none
      mon := { s.mon with acc := t.mon.acc, gacc := t.mon.gacc, discard := t.mon.discard } } ∧
    (∀ n : EntryId, t.table[n] = match s.table[n] with
      | .free => .free
      | .active f none => .quarantined f .ureset
      | .active _ (some _) => .free
      | .expiring f .timeout => .quarantined f .ureset
      | .expiring _ .dreset => .free
      | .quarantined f c => .quarantined f c) ∧
    t.mon.discard = min 4294967295 (s.mon.discard + ((if s.stage = .empty then 0 else 1) + s.localList.length +
      s.pool.length + (allEntries.filter fun n => (s.table[n].resident).isSome).length)) ∧
    let raised (count by_ : Nat) : Nat := if by_ = 0 then count else min 4294967295 (count + by_)
    let drained (counts : Flight → Bool) : Nat := (allEntries.filter fun n => match s.table[n] with
      | .active f (some _) => counts f
      | _ => false).length
    (∀ k : StreamId,
      let a := s.mon.acc[k]
      t.mon.acc[k] = { a with counts := { a.counts with
        drain := raised a.counts.drain (drained fun f => f.stream == some k)
        peak := if s.used k = 0 then a.counts.peak else max a.counts.peak (s.used k) } }) ∧
    t.mon.gacc = { s.mon.gacc with counts := { s.mon.gacc.counts with
      drain := raised s.mon.gacc.counts.drain (drained fun _ => true)
      peak := if s.pool = [] then s.mon.gacc.counts.peak else max s.mon.gacc.counts.peak s.pool.length } }

/-- O38. DRST# (R28, R111): each in-flight entry changes as its state says, the response offered at the downstream port is withdrawn,
and a LOST response is offered for every entry that was ACTIVE, in ascending entry number, behind the offers that wait. -/
def Obligations.DownstreamReset : Prop :=
  ∀ s : State, s.Running → ∃ (table : Vector Entry 48) (lost : List EntryId),
    exec .drstAssert s = .next (finish s
      ((lost.filterMap fun n => match s.table[n] with
        | .active f _ => some { offerer := .inflight n, entry := { pair := f.pair, outcome := .lost, registered := true } }
        | _ => none).foldl (fun u o => makeOffer o u)
        { s with pins := { s.pins with drst := true }, table := table, downResp := none })) ∧
    (∀ n : EntryId, table[n] = match s.table[n] with
      | .free => .free
      | .active f _ => .expiring f .dreset
      | .expiring f _ => .expiring f .dreset
      | .quarantined _ _ => .free) ∧
    lost.Pairwise (· < ·) ∧ ∀ n, n ∈ lost ↔ ∃ f l, s.table[n] = .active f l

/-! ### The management link -/

/-- O39. Transfers (R197, R203): an address byte ends the transfer in progress, and the device's own address begins a new one, a write
at WRITE_PAGE or a read, acknowledged; another address is not. A stop, and an SCL low of 30 to 30.001 ms within a transfer, end
the transfer: the latches are emptied and the pointer stays. How long SCL was low is the command's operand (log 14). -/
def Obligations.LinkTransfers : Prop :=
  ∀ s : State, s.Running →
    let ended := { s.link with state := .idle, readEnded := false, readLatch := none, writeLatch := none }
    (∀ (address : BitVec 7) (read : Bool),
      (address.toNat = 0x5A + s.link.straps.toNat → exec (.transferStart address read) s = .next { s with
        link := { ended with state := if read then .read else .writePage }
        ports := { s.ports with linkAck := true } }) ∧
      (address.toNat ≠ 0x5A + s.link.straps.toNat → exec (.transferStart address read) s = .next { s with
        link := ended, ports := { s.ports with linkAck := false } })) ∧
    exec .transferEnd s = .next { s with link := ended } ∧
    (∀ lowFor : Nat, s.link.state ≠ .idle → 3000000 ≤ lowFor → lowFor ≤ 3000100 →
      exec (.sclTimeout lowFor) s = .next { s with link := ended }) ∧
    (∀ lowFor : Nat, (s.link.state = .idle ∨ lowFor < 3000000 ∨ 3000100 < lowFor) → exec (.sclTimeout lowFor) s = .next s)

/-- O40. A byte of a write transfer (R198, R201, R202): the page byte, the offset byte, the end of the page; a byte of a multi-byte
staged field goes to the write latch until the field's highest byte, at which the field is written whole, with its present
value in the bytes not written; a single-byte field is written at once; a reserved place ignores the byte. On the other pages a
byte at page 03h is a command's arrival (offset 00h), a request argument (01h to 03h) or the alert hold (10h), at page 04h a mask
byte (20h to 30h), and anywhere else ignored (R165, R166, R181, R201, R206, R207). What the write of a staged field does is what
STAGED_WRITE does (log 18). Outside a write transfer, so also after an abandoned one, the device ignores the bus (R197, R203): a byte
is not acknowledged and does nothing else (log 13). -/
def Obligations.WrittenBytes : Prop :=
  (∀ (b : Byte) (s : State), s.Running →
    let acked (l : Link) : State := { s with link := l, ports := { s.ports with linkAck := true } }
    (s.link.state = .writePage →
      exec (.writeByte b) s = .next (acked { s.link with page := b, offset := 0, state := .writeOffset })) ∧
    (s.link.state = .writeOffset →
      exec (.writeByte b) s = .next (acked { s.link with offset := b.toNat, state := .writeData })) ∧
    (s.link.state = .writeData → 256 ≤ s.link.offset →
      exec (.writeByte b) s = .next { s with ports := { s.ports with linkAck := false } }) ∧
    ((s.link.state = .idle ∨ s.link.state = .read) →
      exec (.writeByte b) s = .next { s with ports := { s.ports with linkAck := false } }) ∧
    (s.link.state = .writeData → s.link.offset < 256 →
      let page := s.link.page.toNat
      let off := s.link.offset
      let moved := { s.link with offset := off + 1 }
      let at' := { s with link := moved }
      (isStagedPage page = false →
        let answers (u : State) := exec (.writeByte b) s = .next { u with ports := { u.ports with linkAck := true } }
        (page = 0x03 → off = 0x00 → ∃ u, exec (.unknownCode b) at' = .next u ∧ answers u) ∧
        (∀ i : Fin 3, page = 0x03 → off = 0x01 + i.val →
          answers { at' with cfg := { s.cfg with reqArgs := putAt s.cfg.reqArgs i b } }) ∧
        (page = 0x03 → off = 0x10 → answers { at' with alm := { s.alm with hold := b.getLsbD 0 } }) ∧
        (∀ k : StreamId, page = 0x04 → off = 0x20 + k.val →
          answers { at' with alm := { s.alm with mask := putAt s.alm.mask k (b.setWidth 6) } }) ∧
        (page = 0x04 → off = 0x30 → answers { at' with alm := { s.alm with globalMask := b.setWidth 7 } }) ∧
        (¬ (page = 0x03 ∧ (off ≤ 0x03 ∨ off = 0x10)) → ¬ (page = 0x04 ∧ 0x20 ≤ off ∧ off ≤ 0x30) → answers at')) ∧
      (isStagedPage page = true →
        (stagedPlace page off = none → exec (.writeByte b) s = .next (acked moved)) ∧
        (∀ place o, stagedPlace page off = some (place, o) →
          (settingsField place o = none → exec (.writeByte b) s = .next (acked moved)) ∧
          (∀ f, settingsField place o = some f →
            (f.len = 1 → exec (.writeByte b) s = .next (setAck true (writeStaged page off b.toNat at'))) ∧
            (f.len ≠ 1 →
              let lo := off - o + f.off
              let earlier := match s.link.writeLatch with
                | some w => if w.page = page ∧ w.offset = lo then w.bytes else []
                | none => []
              let bytes := (o - f.off, b) :: earlier
              (o - f.off + 1 ≠ f.len → exec (.writeByte b) s = .next
                (acked { moved with writeLatch := some { page := page, offset := lo, bytes := bytes } })) ∧
              (o - f.off + 1 = f.len → exec (.writeByte b) s = .next (setAck true
                (writeStaged page lo (mergeBytes bytes (f.get s.cfg.staged) f.len)
                  { s with link := { moved with writeLatch := none } }))))))))) ∧
  (∀ (bytes : List (Nat × Byte)) (present len : Nat), mergeBytes bytes present len < 256 ^ len ∧
    ∀ i, i < len → mergeBytes bytes present len / 256 ^ i % 256 = match bytes.lookup i with
      | some b => b.toNat
      | none => present / 256 ^ i % 256) ∧
  (∀ page : Nat, isStagedPage page = true ↔
    page = 0x01 ∨ (0x10 ≤ page ∧ page ≤ 0x11) ∨ (0x20 ≤ page ∧ page ≤ 0x23)) ∧
  (∀ (page off : Byte) (v : BitVec 32) (s : State), s.Running →
    exec (.stagedWrite page off v) s = .next (writeStaged page.toNat off.toNat v.toNat s)) ∧
  ∀ s : State, setAck true s = { s with ports := { s.ports with linkAck := true } }

/-- O41. A byte of a read transfer (R199, R200, R202): the lowest byte of a multi-byte field loads the read latch with the whole field;
a further byte comes from the latch that holds the field and otherwise from its present value; reserved places, and the end of
the page, read 00h; nothing is sent after a byte that was not acknowledged. The level of HOT at the read stands in its
pin (log 8). With it, what stands at every place of every page: the live state (R204), the command page with its codes (R206), the
alarm page (R207), the live streams and the in-flight view (R209), the published reports (R210), and the staged and active pages
(R204, R205, R208) with what their codes name. A place that no row of a layout names, and a page that the map does not name, has
no field (R202). The slot arguments are three single-byte fields: the model's reading (log 26). -/
def Obligations.ReadBytes : Prop :=
  (∀ (hot ack : Bool) (s : State), s.Running →
    ((s.link.state ≠ .read ∨ s.link.readEnded = true) → exec (.readByte hot ack) s = .next s) ∧
    (s.link.state = .read → s.link.readEnded = false →
      let u := { s with pins := { s.pins with hot := hot } }
      let page := s.link.page.toNat
      let off := s.link.offset
      let sends (b : Byte) (latch : Option ReadLatch) := exec (.readByte hot ack) s = .next { u with
        link := { s.link with offset := min 256 (off + 1), readEnded := !ack, readLatch := latch }
        ports := { s.ports with linkSent := s.ports.linkSent ++ [b] } }
      (256 ≤ off → sends 0 s.link.readLatch) ∧
      (off < 256 → fieldOf u page off = none → sends 0 s.link.readLatch) ∧
      (∀ f, off < 256 → fieldOf u page off = some f →
        let byte (v : Nat) : Byte := BitVec.ofNat 8 (v / 256 ^ (off - f.off))
        (f.len = 1 → sends (BitVec.ofNat 8 f.value) s.link.readLatch) ∧
        (f.len ≠ 1 → off = f.off →
          sends (BitVec.ofNat 8 f.value) (some { page := page, offset := off, value := f.value })) ∧
        (f.len ≠ 1 → off ≠ f.off →
          (∀ r, s.link.readLatch = some r → r.page = page → r.offset = f.off → sends (byte r.value) s.link.readLatch) ∧
          ((∀ r, s.link.readLatch = some r → ¬ (r.page = page ∧ r.offset = f.off)) →
            sends (byte f.value) s.link.readLatch))))) ∧
  -- the live pages: rows of an offset, a length and a value
  (∀ s : State,
    let row (base : Nat) (rows : List (Nat × Nat × Nat)) (o : Nat) : Option PageField :=
      (rows.find? fun r => decide (r.1 ≤ o ∧ o < r.1 + r.2.1)).map fun r =>
        { off := base + r.1, len := r.2.1, value := r.2.2 }
    let signed (v : Int) : Nat := (BitVec.ofInt 32 v).toNat
    let tripped (w : Watch) : Nat := w.high.toNat + 2 * w.low.toNat + 4 * w.latency.toNat
    let pressure : Nat := match s.gov.pressure with
      | .normal => 0
      | .emergency => 1
    let device : List (Nat × Nat × Nat) :=
      [ (0x00, 2, 0x01A0), (0x02, 1, 0x01), (0x03, 1, s.link.straps.toNat),
        (0x10, 1, match s.cfg.regime with
          | .pass => 0
          | .regulate => 1
          | .draining => 2),
        (0x11, 1, pressure), (0x12, 1, s.pins.hot.toNat), (0x13, 1, s.gov.hotFilter), (0x14, 1, s.pool.length),
        (0x15, 1, s.quarantineCount),
        (0x16, 1, match s.stage with
          | .empty => 0
          | .waitSlot _ _ _ _ => 1
          | .waitRefusal _ _ _ _ => 2
          | .waitDrain _ _ => 3
          | .waitIssue _ _ => 4),
        (0x17, 1, s.mon.regulated.toNat) ]
    let slot := s.cfg.slot
    let command : List (Nat × Nat × Nat) :=
      [ (0x00, 1, 0x00), (0x01, 1, (s.cfg.reqArgs[0]).toNat), (0x02, 1, (s.cfg.reqArgs[1]).toNat),
        (0x03, 1, (s.cfg.reqArgs[2]).toNat), (0x08, 1, slot.code.toNat), (0x09, 1, (slot.args[0]).toNat),
        (0x0A, 1, (slot.args[1]).toNat), (0x0B, 1, (slot.args[2]).toNat),
        (0x0C, 1, match slot.state with
          | .idle => 0
          | .pending => 1
          | .done => 2
          | .refused => 3
          | .cancelled => 4),
        (0x0D, 1, match slot.result with
          | .none => 0x00
          | .ok => 0x01
          | .busy => 0x02
          | .unknown => 0x03
          | .range => 0x10
          | .rateOrder => 0x11
          | .slotOrder => 0x12
          | .reserveSum => 0x13
          | .rateLimits => 0x14
          | .latencyLimits => 0x15
          | .criticalOrder => 0x16
          | .windowForm => 0x17
          | .windowStream => 0x18
          | .missStream => 0x19
          | .occupied => 0x20
          | .badArg => 0x21
          | .wrongRegime => 0x22
          | .nothingPending => 0x23
          | .cancelled => 0x24),
        (0x0E, 1, match slot.detail with
          | .none => 0x00
          | .global => 0x01
          | .stream k => 0x10 + k.val
          | .window n => 0x20 + n.val),
        (0x0F, 1, slot.discarded), (0x10, 1, s.alm.hold.toNat) ]
    let alarm : List (Nat × Nat × Nat) :=
      ((List.finRange 16).map fun k => (k.val, 1, (s.alm.status[k]).toNat)) ++ [(0x10, 1, s.alm.globalStatus.toNat)] ++
      ((List.finRange 16).map fun k => (0x20 + k.val, 1, (s.alm.mask[k]).toNat)) ++ [(0x30, 1, s.alm.globalMask.toNat)] ++
      ((List.finRange 16).map fun k => (0x40 + k.val, 1, tripped s.mon.watches[k])) ++
      [(0x50, 1, pressure + 2 * s.alm.driven.toNat)]
    let live (k : StreamId) : List (Nat × Nat × Nat) :=
      let guarded : Nat := match s.queueHead k with
        | some h => if h.guards = 0 then 0 else 1
        | none => 0
      [ (0x00, 1, match s.cfg.streamState[k] with
          | .off => 0
          | .on => 1
          | .retiring => 2),
        (0x01, 1, guarded + 2 * tripped s.mon.watches[k]), (0x02, 1, (s.mon.watches[k]).fault), (0x03, 1, s.gov.miss[k]),
        (0x04, 4, signed (s.accounts[k]).balance), (0x08, 2, s.gov.rate[k]), (0x0A, 1, s.used k) ]
    let flight (n : EntryId) : List (Nat × Nat × Nat) :=
      let shown (f : Flight → Nat) : Nat := match s.table[n] with
        | .free => 0
        | .active u _ => f u
        | .expiring u _ => f u
        | .quarantined u _ => f u
      [ (0x00, 1, match s.table[n] with
          | .free => 0
          | .active _ none => 1
          | .active _ (some _) => 0x81
          | .expiring _ .timeout => 2
          | .expiring _ .dreset => 3
          | .quarantined _ .timeout => 4
          | .quarantined _ .ureset => 5),
        (0x01, 1, shown fun u => u.pair.initiator.val + (if u.kind = .write then 64 else 0) +
          (if u.stream = none then 0 else 128)),
        (0x02, 1, shown fun u => u.pair.tag.val),
        (0x03, 1, shown fun u => (match u.stream with
          | some k => k.val
          | none => 0) + 16 * (u.beats.val - 1)),
        (0x04, 4, shown fun u => min 0xFFFFFFFF ((s.now - u.issueTime) / 100)) ]
    let mean (m : Option Nat) : Nat := match m with
      | some v => v
      | none => 0
    let present (m : Option Nat) : Nat := if m = none then 0 else 1
    let report (k : StreamId) : List (Nat × Nat × Nat) :=
      let r := s.mon.reports[k]
      [ (0x00, 4, r.counts.bytes), (0x04, 4, r.counts.reads), (0x08, 4, r.counts.writes), (0x0C, 4, r.counts.completions),
        (0x10, 4, r.counts.memfaults), (0x14, 2, r.counts.latencyMax), (0x16, 2, mean r.mean),
        (0x18, 1, present r.mean + 2 * r.starved.toNat), (0x19, 1, r.counts.peak), (0x1A, 2, r.effRate),
        (0x1C, 4, signed r.balance), (0x20, 4, r.counts.window), (0x24, 4, r.counts.full), (0x28, 4, r.counts.stale),
        (0x2C, 4, r.counts.retired), (0x30, 4, r.counts.lost), (0x34, 4, r.counts.late), (0x38, 4, r.counts.drain),
        (0x3C, 2, s.mon.seq.toNat) ]
    let total : List (Nat × Nat × Nat) :=
      let r := s.mon.greport
      [ (0x00, 2, s.mon.seq.toNat), (0x02, 1, r.regulated.toNat + 2 * present r.mean), (0x04, 2, r.epochLength),
        (0x06, 1, r.counts.peak), (0x08, 4, r.counts.bytes), (0x0C, 4, r.counts.reads), (0x10, 4, r.counts.writes),
        (0x14, 4, r.counts.completions), (0x18, 4, r.counts.memfaults), (0x1C, 2, r.counts.latencyMax),
        (0x1E, 2, mean r.mean), (0x20, 4, r.span), (0x24, 4, r.duplicate), (0x28, 4, r.counts.window),
        (0x2C, 4, r.counts.full), (0x30, 4, r.counts.stale), (0x34, 4, r.counts.retired), (0x38, 4, r.counts.lost),
        (0x3C, 4, r.counts.late), (0x40, 4, r.counts.drain), (0x44, 4, r.orphan), (0x48, 4, r.discard) ]
    (∀ o, o < 256 → fieldOf s 0x00 o = row 0 device o ∧ fieldOf s 0x03 o = row 0 command o ∧
      fieldOf s 0x04 o = row 0 alarm o ∧ fieldOf s 0x34 o = row 0 total o) ∧
    (∀ (k : StreamId) (o : Nat), o < 64 →
      let base := 64 * (k.val % 4)
      fieldOf s (0x28 + k.val / 4) (base + o) = row base (live k) o ∧
      fieldOf s (0x30 + k.val / 4) (base + o) = row base (report k) o) ∧
    (∀ (n : EntryId) (o : Nat), o < 8 →
      let base := 8 * (n.val % 32)
      fieldOf s (0x40 + n.val / 32) (base + o) = row base (flight n) o) ∧
    (∀ o, 0x80 ≤ o → o < 256 → fieldOf s 0x41 o = none) ∧
    ∀ page off : Nat, ¬ (page ≤ 0x04 ∨ (0x10 ≤ page ∧ page ≤ 0x13) ∨ (0x20 ≤ page ∧ page ≤ 0x2B) ∨
      (0x30 ≤ page ∧ page ≤ 0x34) ∨ page = 0x40 ∨ page = 0x41) → fieldOf s page off = none) ∧
  -- the configuration pages: rows of an offset, a length and a value
  (∀ s : State,
    let row (base : Nat) (rows : List (Nat × Nat × Nat)) (o : Nat) : Option PageField :=
      (rows.find? fun r => decide (r.1 ≤ o ∧ o < r.1 + r.2.1)).map fun r =>
        { off := base + r.1, len := r.2.1, value := r.2.2 }
    let globals (g : GlobalSettings) : List (Nat × Nat × Nat) :=
      [ (0x00, 1, g.regimeRequest.toNat), (0x01, 1, g.missPolicy.toNat), (0x02, 1, g.missStream.toNat),
        (0x03, 1, g.hotFilter.toNat), (0x04, 2, g.epochLength.toNat), (0x06, 1, g.refillPeriod.toNat),
        (0x07, 1, g.missCount.toNat), (0x08, 2, g.stallTimeout.toNat), (0x0A, 2, g.responseTimeout.toNat),
        (0x0C, 1, g.latencyOffset.toNat), (0x0D, 1, g.quarantineThreshold.toNat), (0x0E, 2, g.cruiseTarget.toNat),
        (0x10, 2, g.cruiseTolerance.toNat), (0x12, 2, g.criticalLimit.toNat), (0x14, 2, g.criticalRelease.toNat) ]
    let window (w : WindowEntry) : List (Nat × Nat × Nat) :=
      [ (0x00, 1, (if w.valid then 1 else 0) + (if w.matchRange then 2 else 0)), (0x01, 1, w.stream.toNat),
        (0x02, 1, w.permission.toNat), (0x04, 1, w.low.toNat), (0x05, 1, w.high.toNat), (0x08, 4, w.base.toNat),
        (0x0C, 4, w.limit.toNat) ]
    let stream (r : StreamRecord) : List (Nat × Nat × Nat) :=
      [ (0x00, 1, r.stateRequest.toNat), (0x01, 1, r.cls.toNat), (0x02, 1, r.weight.toNat), (0x03, 1, r.mode.toNat),
        (0x04, 2, r.configured.toNat), (0x06, 2, r.floor.toNat), (0x08, 2, r.maxRate.toNat), (0x0A, 2, r.step.toNat),
        (0x0C, 4, r.ceiling.toNat), (0x10, 1, r.reserved.toNat), (0x11, 1, r.maxSlots.toNat), (0x12, 1, r.overflow.toNat),
        (0x13, 1, r.faultCount.toNat), (0x14, 2, r.holdLimit.toNat), (0x16, 1, r.rateMode.toNat),
        (0x17, 1, r.latencyMode.toNat), (0x18, 3, r.rateHigh.toNat), (0x1C, 3, r.rateLow.toNat),
        (0x20, 2, r.latencyOver.toNat), (0x22, 2, r.latencyRelease.toNat) ]
    (∀ o, o < 256 →
      fieldOf s 0x01 o = row 0 (globals s.cfg.staged.global) o ∧ fieldOf s 0x02 o = row 0 (globals s.cfg.active.global) o) ∧
    (∀ (n : WindowId) (o : Nat), o < 16 →
      let base := 16 * (n.val % 16)
      fieldOf s (0x10 + n.val / 16) (base + o) = row base (window s.cfg.staged.windows[n]) o ∧
      fieldOf s (0x12 + n.val / 16) (base + o) = row base (window s.cfg.active.windows[n]) o) ∧
    (∀ o, 0x80 ≤ o → o < 256 → fieldOf s 0x11 o = none ∧ fieldOf s 0x13 o = none) ∧
    (∀ (k : StreamId) (o : Nat), o < 64 →
      let base := 64 * (k.val % 4)
      fieldOf s (0x20 + k.val / 4) (base + o) = row base (stream s.cfg.staged.streams[k]) o ∧
      fieldOf s (0x24 + k.val / 4) (base + o) = row base (stream s.cfg.active.streams[k]) o) ∧
    ∀ page off place o, off < 256 → stagedPlace page off = some (place, o) →
      fieldOf s page off = (settingsField place o).map fun f =>
        { off := off - o + f.off, len := f.len, value := f.get s.cfg.staged }) ∧
  -- what the codes of the configuration name
  (∀ r : StreamRecord,
    (r.cls = 0 → classOf r = .prot) ∧ (r.cls = 1 → classOf r = .paced) ∧ (r.cls = 2 → classOf r = .bulk) ∧
    (r.mode = 0 → modeOf r = .fixed) ∧ (r.mode = 1 → modeOf r = .ramp) ∧ (r.mode = 2 → modeOf r = .cruise) ∧
    (requestsOn r = true ↔ r.stateRequest = 1)) ∧
  watchModeOf 0 = .level ∧ watchModeOf 1 = .trip ∧ watchModeOf 2 = .both ∧
  (∀ k : StreamId, streamNamed (BitVec.ofNat 8 k.val) = k) ∧
  ∀ (s : State) (k : StreamId), s.record k = s.cfg.active.streams[k] ∧ s.settings = s.cfg.active.global ∧
    (s.isProtected k = true ↔ classOf (s.record k) = .prot)

/-- O42. The completed writes: a staged field takes the value, or the write is discarded and counted while a COMMIT is PENDING, or it
is ignored for the state request of a RETIRING stream (R184, R190); a reserved place ignores it (R202); the masks (R165), the
alert hold (R166) and the request arguments (R201) take their values, whatever is PENDING. They are commands of their own, beside
WRITE_BYTE (log 18). With it, which setting a write at each place of the staged pages changes (R204, R205, R208): the rows give
the offset, the length and the record after the write, and a place that no row names is reserved. -/
def Obligations.CompletedWrites : Prop :=
  (∀ (page off : Byte) (v : BitVec 32) (s : State), s.Running →
    ((stagedPlace page.toNat off.toNat = none ∨
        ∃ place o, stagedPlace page.toNat off.toNat = some (place, o) ∧ settingsField place o = none) →
      exec (.stagedWrite page off v) s = .next s) ∧
    (∀ place o f, stagedPlace page.toNat off.toNat = some (place, o) → settingsField place o = some f →
      (s.pendingCode 0x01 = true → exec (.stagedWrite page off v) s = .next { s with
        cfg := { s.cfg with slot := { s.cfg.slot with discarded := min 255 (s.cfg.slot.discarded + 1) } } }) ∧
      (s.pendingCode 0x01 = false →
        let guarded := f.off = 0 ∧ ∃ k, place = .stream k ∧ s.cfg.streamState[k] = .retiring
        (guarded → exec (.stagedWrite page off v) s = .next s) ∧
        (¬ guarded → exec (.stagedWrite page off v) s = .next { s with
          cfg := { s.cfg with staged := f.set s.cfg.staged v.toNat } })))) ∧
  (∀ (v : Byte) (s : State), s.Running →
    (∀ k, exec (.maskWrite (.stream k) v) s = .next { s with
      alm := { s.alm with mask := putAt s.alm.mask k (v.setWidth 6) } }) ∧
    exec (.maskWrite .global v) s = .next { s with alm := { s.alm with globalMask := v.setWidth 7 } } ∧
    exec (.alertHoldWrite v) s = .next { s with alm := { s.alm with hold := v.getLsbD 0 } } ∧
    ∀ i, exec (.fieldWrite i v) s = .next { s with cfg := { s.cfg with reqArgs := putAt s.cfg.reqArgs i v } }) ∧
  ∀ (v : BitVec 32) (s : State), s.Running → s.pendingCode 0x01 = false →
    let writes (page base o : Nat) (staged : Settings) : Prop :=
      exec (.stagedWrite (BitVec.ofNat 8 page) (BitVec.ofNat 8 (base + o)) v) s =
        .next { s with cfg := { s.cfg with staged := staged } }
    let c := s.cfg.staged
    let g := c.global
    let byte := v.setWidth 8
    let half := v.setWidth 16
    let globals : List (Nat × Nat × GlobalSettings) :=
      [ (0x00, 1, { g with regimeRequest := byte }), (0x01, 1, { g with missPolicy := byte }),
        (0x02, 1, { g with missStream := byte }), (0x03, 1, { g with hotFilter := byte }),
        (0x04, 2, { g with epochLength := half }), (0x06, 1, { g with refillPeriod := byte }),
        (0x07, 1, { g with missCount := byte }), (0x08, 2, { g with stallTimeout := half }),
        (0x0A, 2, { g with responseTimeout := half }), (0x0C, 1, { g with latencyOffset := byte }),
        (0x0D, 1, { g with quarantineThreshold := byte }), (0x0E, 2, { g with cruiseTarget := half }),
        (0x10, 2, { g with cruiseTolerance := half }), (0x12, 2, { g with criticalLimit := half }),
        (0x14, 2, { g with criticalRelease := half }) ]
    let window (w : WindowEntry) : List (Nat × Nat × WindowEntry) :=
      [ (0x00, 1, { w with valid := v.getLsbD 0, matchRange := v.getLsbD 1 }), (0x01, 1, { w with stream := byte }),
        (0x02, 1, { w with permission := byte }), (0x04, 1, { w with low := byte }), (0x05, 1, { w with high := byte }),
        (0x08, 4, { w with base := v }), (0x0C, 4, { w with limit := v }) ]
    let stream (r : StreamRecord) : List (Nat × Nat × StreamRecord) :=
      [ (0x00, 1, { r with stateRequest := byte }), (0x01, 1, { r with cls := byte }), (0x02, 1, { r with weight := byte }),
        (0x03, 1, { r with mode := byte }), (0x04, 2, { r with configured := half }), (0x06, 2, { r with floor := half }),
        (0x08, 2, { r with maxRate := half }), (0x0A, 2, { r with step := half }), (0x0C, 4, { r with ceiling := v }),
        (0x10, 1, { r with reserved := byte }), (0x11, 1, { r with maxSlots := byte }), (0x12, 1, { r with overflow := byte }),
        (0x13, 1, { r with faultCount := byte }), (0x14, 2, { r with holdLimit := half }),
        (0x16, 1, { r with rateMode := byte }), (0x17, 1, { r with latencyMode := byte }),
        (0x18, 3, { r with rateHigh := v.setWidth 24 }), (0x1C, 3, { r with rateLow := v.setWidth 24 }),
        (0x20, 2, { r with latencyOver := half }), (0x22, 2, { r with latencyRelease := half }) ]
    (∀ o, o < 256 →
      (∀ row ∈ globals, row.1 ≤ o → o < row.1 + row.2.1 → writes 0x01 0 o { c with global := row.2.2 }) ∧
      ((∀ row ∈ globals, ¬ (row.1 ≤ o ∧ o < row.1 + row.2.1)) → writes 0x01 0 o c)) ∧
    (∀ (n : WindowId) (o : Nat), o < 16 →
      let base := 16 * (n.val % 16)
      (∀ row ∈ window c.windows[n], row.1 ≤ o → o < row.1 + row.2.1 →
        writes (0x10 + n.val / 16) base o { c with windows := putAt c.windows n row.2.2 }) ∧
      ((∀ row ∈ window c.windows[n], ¬ (row.1 ≤ o ∧ o < row.1 + row.2.1)) → writes (0x10 + n.val / 16) base o c)) ∧
    (∀ o, 0x80 ≤ o → o < 256 → writes 0x11 0 o c) ∧
    (∀ (k : StreamId) (o : Nat), o < 64 →
      let base := 64 * (k.val % 4)
      (∀ row ∈ stream c.streams[k], row.1 ≤ o → o < row.1 + row.2.1 → ¬ (o = 0 ∧ s.cfg.streamState[k] = .retiring) →
        writes (0x20 + k.val / 4) base o { c with streams := putAt c.streams k row.2.2 }) ∧
      ((∀ row ∈ stream c.streams[k], ¬ (row.1 ≤ o ∧ o < row.1 + row.2.1)) → writes (0x20 + k.val / 4) base o c))

/-! ### Commands and the alert line -/

/-- O43. COMMIT (R181, R183, R185), with no command PENDING: the static checks decide between REFUSED with the first failing code and
place, and PENDING until the boundary at the end of the epoch in progress (log 9). The checks pass exactly when every range and
order holds; and the ten checks stand in the order of R183, each over its places in their order, with the ranges of R176, R44 and
R29: the first place of the first check that fails is the one named. -/
def Obligations.CommitTaken : Prop :=
  (∀ s : State, s.Running → s.cfg.slot.state ≠ .pending →
    let slot := { s.cfg.slot with code := 0x01, args := s.cfg.reqArgs, discarded := 0 }
    (∀ code place, staticFailure s.cfg.staged = some (code, place) → exec .commit s = .next { s with
      cfg := { s.cfg with slot := { slot with state := .refused, result := code, detail := place } }
      alm := { s.alm with globalStatus := s.alm.globalStatus ||| 0x40 } }) ∧
    (staticFailure s.cfg.staged = none → exec .commit s = .next { s with
      cfg := { s.cfg with slot :=
        { slot with state := .pending, result := .none, detail := .none, judgeAt := s.mon.epochEnd } } })) ∧
  (∀ c : Settings, staticFailure c = none ↔
    globalInRange c.global = true ∧ (∀ k : StreamId, streamInRange c.streams[k] = true) ∧
    (∀ n : WindowId, windowInRange c.windows[n] = true) ∧
    (∀ k : StreamId, c.streams[k].floor.toNat ≤ c.streams[k].configured.toNat ∧
      c.streams[k].configured.toNat ≤ c.streams[k].maxRate.toNat) ∧
    (∀ k : StreamId, c.streams[k].reserved.toNat ≤ c.streams[k].maxSlots.toNat) ∧
    reservedTotal c ≤ 64 ∧
    (∀ k : StreamId, c.streams[k].rateLow.toNat ≠ 0 → c.streams[k].rateHigh.toNat ≠ 0 →
      c.streams[k].rateLow.toNat ≤ c.streams[k].rateHigh.toNat) ∧
    (∀ k : StreamId, c.streams[k].latencyRelease.toNat ≤ c.streams[k].latencyOver.toNat) ∧
    c.global.criticalRelease.toNat ≤ c.global.criticalLimit.toNat ∧
    (∀ n : WindowId, c.windows[n].valid = true →
      c.windows[n].base.toNat ≤ c.windows[n].limit.toNat ∧
      (c.windows[n].matchRange = true → c.windows[n].low.toNat ≤ c.windows[n].high.toNat) ∧
      requestsOn c.streams[streamNamed c.windows[n].stream] = true) ∧
    (c.global.missPolicy ≠ 1 → requestsOn c.streams[streamNamed c.global.missStream] = true)) ∧
  ∀ c : Settings,
    let g := c.global
    let onGlobal (code : Result) (ok : Bool) : List (Result × Detail × Bool) := [(code, .global, ok)]
    let onStreams (code : Result) (ok : StreamRecord → Bool) : List (Result × Detail × Bool) :=
      (List.finRange 16).map fun k => (code, .stream k, ok c.streams[k])
    let onWindows (code : Result) (ok : WindowEntry → Bool) : List (Result × Detail × Bool) :=
      (List.finRange 24).map fun n => (code, .window n, ok c.windows[n])
    let globalRange := g.regimeRequest.toNat ≤ 1 ∧ g.missPolicy.toNat ≤ 1 ∧ g.missStream.toNat ≤ 15 ∧
      (1 ≤ g.hotFilter.toNat ∧ g.hotFilter.toNat ≤ 4) ∧ (1 ≤ g.epochLength.toNat ∧ g.epochLength.toNat ≤ 1000) ∧
      (1 ≤ g.refillPeriod.toNat ∧ g.refillPeriod.toNat ≤ 64) ∧ 1 ≤ g.missCount.toNat ∧ 1 ≤ g.stallTimeout.toNat ∧
      16 ≤ g.responseTimeout.toNat ∧ (-100 ≤ g.latencyOffset.toInt ∧ g.latencyOffset.toInt ≤ 100) ∧
      (1 ≤ g.quarantineThreshold.toNat ∧ g.quarantineThreshold.toNat ≤ 48)
    let streamRange (r : StreamRecord) := r.stateRequest.toNat ≤ 1 ∧ r.cls.toNat ≤ 2 ∧
      (1 ≤ r.weight.toNat ∧ r.weight.toNat ≤ 15) ∧ r.mode.toNat ≤ 2 ∧ r.configured.toNat ≤ 4096 ∧ r.floor.toNat ≤ 4096 ∧
      r.maxRate.toNat ≤ 4096 ∧ (1 ≤ r.step.toNat ∧ r.step.toNat ≤ 1024) ∧
      (256 ≤ r.ceiling.toNat ∧ r.ceiling.toNat ≤ 1048576 ∧ r.ceiling.toNat % 256 = 0) ∧ r.reserved.toNat ≤ 8 ∧
      (1 ≤ r.maxSlots.toNat ∧ r.maxSlots.toNat ≤ 64) ∧ r.overflow.toNat ≤ 1 ∧
      (1 ≤ r.faultCount.toNat ∧ r.faultCount.toNat ≤ 4) ∧ r.rateMode.toNat ≤ 2 ∧ r.latencyMode.toNat ≤ 2
    let windowRange (w : WindowEntry) := w.stream.toNat ≤ 15 ∧ w.permission.toNat ≤ 3 ∧ w.low.toNat ≤ 63 ∧
      w.high.toNat ≤ 63 ∧ w.base.toNat ≤ 0x0FFFFFFF ∧ w.limit.toNat ≤ 0x0FFFFFFF
    let checks :=
      onGlobal .range (decide globalRange) ++ onStreams .range (fun r => decide (streamRange r)) ++
      onWindows .range (fun w => decide (windowRange w)) ++
      onStreams .rateOrder (fun r => decide (r.floor.toNat ≤ r.configured.toNat ∧ r.configured.toNat ≤ r.maxRate.toNat)) ++
      onStreams .slotOrder (fun r => decide (r.reserved.toNat ≤ r.maxSlots.toNat)) ++
      onGlobal .reserveSum (decide (((List.finRange 16).map fun k => c.streams[k].reserved.toNat).sum ≤ 64)) ++
      onStreams .rateLimits (fun r => decide (r.rateLow.toNat = 0 ∨ r.rateHigh.toNat = 0 ∨ r.rateLow.toNat ≤ r.rateHigh.toNat)) ++
      onStreams .latencyLimits (fun r => decide (r.latencyRelease.toNat ≤ r.latencyOver.toNat)) ++
      onGlobal .criticalOrder (decide (g.criticalRelease.toNat ≤ g.criticalLimit.toNat)) ++
      onWindows .windowForm (fun w => decide (w.valid = true →
        w.base.toNat ≤ w.limit.toNat ∧ (w.matchRange = true → w.low.toNat ≤ w.high.toNat))) ++
      onWindows .windowStream (fun w => decide (w.valid = true →
        (c.streams[Fin.ofNat 16 w.stream.toNat]).stateRequest = 1)) ++
      onGlobal .missStream (decide (g.missPolicy ≠ 1 → (c.streams[Fin.ofNat 16 g.missStream.toNat]).stateRequest = 1))
    staticFailure c = (checks.find? fun check => !check.2.2).map fun check => (check.1, check.2.1)

/-- O44. REVERT (R188) copies the active copy into the staged copy. ACK (R170, R206) clears the named statuses after its own COMMAND
was raised: in the GLOBAL form the global causes of argument 0; in the STREAM form the causes of argument 2 of the streams that
arguments 0 and 1 name (bit n of argument 0 names stream n, bit n of argument 1 stream 8 + n), but not a watch cause whose mode is LEVEL. Both end DONE with OK, with no command PENDING before. -/
def Obligations.RevertAndAck : Prop :=
  ∀ s : State, s.Running → s.cfg.slot.state ≠ .pending →
    let slot (code : Byte) : Slot := { s.cfg.slot with
      code := code, args := s.cfg.reqArgs, state := .done, result := .ok, detail := .none, discarded := 0 }
    let raised := s.alm.globalStatus ||| 0x40
    exec .revert s = .next { s with
      cfg := { s.cfg with staged := s.cfg.active, slot := slot 0x02 }, alm := { s.alm with globalStatus := raised } } ∧
    ((s.cfg.reqArgs[2]).getLsbD 7 = true → exec .ack s = .next { s with
      cfg := { s.cfg with slot := slot 0x03 }
      alm := { s.alm with globalStatus := raised &&& ~~~((s.cfg.reqArgs[0]).setWidth 7) } }) ∧
    ((s.cfg.reqArgs[2]).getLsbD 7 = false → ∃ status : Vector (BitVec 6) 16,
      exec .ack s = .next { s with
        cfg := { s.cfg with slot := slot 0x03 }, alm := { s.alm with status := status, globalStatus := raised } } ∧
      ∀ (k : StreamId) (c : StreamCause), hasCause status[k] c =
        (hasCause s.alm.status[k] c && !((if k.val < 8 then (s.cfg.reqArgs[0]).getLsbD k.val
            else (s.cfg.reqArgs[1]).getLsbD (k.val - 8)) &&
          hasCause ((s.cfg.reqArgs[2]).setWidth 6) c &&
          match c with
          | .rateHigh => decide (watchModeOf (s.record k).rateMode ≠ .level)
          | .rateLow => decide (watchModeOf (s.record k).rateMode ≠ .level)
          | .latency => decide (watchModeOf (s.record k).latencyMode ≠ .level)
          | _ => true)))

/-- O45. RETIRE (R190, R13), with no command PENDING: BAD_ARG for an argument above 15 or a stream that is not ON, else WRONG_REGIME
outside REGULATE, else the stream is RETIRING with its staged state request ON, its request in WAIT_SLOT is refused RETIRED, the
slot is PENDING (its boundary is set as for a COMMIT, log 9), and the drain is tested at once (R84). -/
def Obligations.RetireTaken : Prop :=
  ∀ s : State, s.Running → s.cfg.slot.state ≠ .pending →
    let arg := (s.cfg.reqArgs[0]).toNat
    let slot := { s.cfg.slot with code := 0x04, args := s.cfg.reqArgs, detail := .none, discarded := 0 }
    let refused (r : Result) : State := { s with
      cfg := { s.cfg with slot := { slot with state := .refused, result := r } }
      alm := { s.alm with globalStatus := s.alm.globalStatus ||| 0x40 } }
    (15 < arg → exec .retire s = .next (refused .badArg)) ∧
    ∀ k : StreamId, k.val = arg →
      (s.cfg.streamState[k] ≠ .on → exec .retire s = .next (refused .badArg)) ∧
      (s.cfg.streamState[k] = .on → s.cfg.regime ≠ .regulate → exec .retire s = .next (refused .wrongRegime)) ∧
      (s.cfg.streamState[k] = .on → s.cfg.regime = .regulate →
        let t := { s with cfg := { s.cfg with
          streamState := putAt s.cfg.streamState k .retiring
          staged := { s.cfg.staged with
            streams := putAt s.cfg.staged.streams k { s.cfg.staged.streams[k] with stateRequest := 1 } }
          slot := { slot with state := .pending, result := .none, judgeAt := s.mon.epochEnd } } }
        (∀ req reg start, s.stage = .waitSlot req reg k start →
          exec .retire s = .next (checkDrained (refuse req reg .retired (some k) t))) ∧
        ((∀ req reg start, s.stage ≠ .waitSlot req reg k start) → exec .retire s = .next (checkDrained t)))

/-- O46. RESTART (R118, R131, R137, R157, R172, R193), with no command PENDING: the measurement and governance state starts afresh;
the configuration, the regime, the traffic, the balances, the masks and the alert hold stand. A stream that is still starving has
its starved flag set again at once (R56; log 10). -/
def Obligations.RestartTaken : Prop :=
  ∀ s : State, s.Running → s.cfg.slot.state ≠ .pending →
    let zero : Counts :=
      { bytes := 0, reads := 0, writes := 0, completions := 0, memfaults := 0, latencyMax := 0, window := 0, full := 0,
        stale := 0, retired := 0, lost := 0, late := 0, drain := 0, peak := 0 }
    ∃ (t : State) (m : Monitor) (rate : Vector Nat 16),
    exec .restart s = .next t ∧
    t = { s with
      accounts := t.accounts
      mon := m
      gov := { rate := rate, miss := Vector.replicate 16 0, hotFilter := 0, pressure := .normal }
      alm := { s.alm with status := Vector.replicate 16 0, globalStatus := 0 }
      cfg := { s.cfg with slot := { s.cfg.slot with
        code := 0x05, args := s.cfg.reqArgs, state := .done, result := .ok, detail := .none, discarded := 0 } } } ∧
    m = { s.mon with
      epochStart := s.now
      epochEnd := s.now + s.settings.epochLength.toNat * 10000
      epochLen := s.settings.epochLength.toNat
      regulated := s.cfg.regime == .regulate
      seq := 0
      acc := Vector.replicate 16 { counts := zero, latencySum := 0 }
      gacc := { counts := zero, latencySum := 0 }
      span := 0
      duplicate := 0
      orphan := 0
      discard := 0
      reports := Vector.replicate 16 { counts := zero, mean := none, effRate := 0, balance := 0, starved := false }
      greport :=
        { regulated := false, epochLength := 0, counts := zero, mean := none, span := 0, duplicate := 0, orphan := 0, discard := 0 }
      watches := Vector.replicate 16 { high := false, low := false, latency := false, fault := 0 } } ∧
    ∀ k : StreamId, rate[k] = (s.record k).configured.toNat ∧
      t.accounts[k] = { balance := s.accounts[k].balance, starved := s.starving k }

/-- O47. CANCEL ends a PENDING command, whose slot keeps its code, arguments, detail and count, and puts a RETIRING stream ON; with
none PENDING it is taken and refused NOTHING_PENDING (R194). Any other command that arrives while one is PENDING is refused BUSY,
and changes nothing else (R181); a code that names no command is otherwise taken and refused UNKNOWN. The model's reading (log 18):
an UNKNOWN_CODE whose code does name a command, which the check on commands refuses, has that command's effect. -/
def Obligations.CancelBusyUnknown : Prop :=
  ∀ s : State, s.Running →
    let raised := { s.alm with globalStatus := s.alm.globalStatus ||| 0x40 }
    let busy : State := { s with cfg := { s.cfg with slot := { s.cfg.slot with result := .busy } }, alm := raised }
    let refused (code : Byte) (r : Result) : State := { s with
      cfg := { s.cfg with slot := { s.cfg.slot with
        code := code, args := s.cfg.reqArgs, state := .refused, result := r, detail := .none, discarded := 0 } }
      alm := raised }
    (s.cfg.slot.state = .pending → ∃ streamState : Vector StreamState 16,
      exec .cancel s = .next { s with
        cfg := { s.cfg with
          streamState := streamState, slot := { s.cfg.slot with state := .cancelled, result := .cancelled } }
        alm := raised } ∧
      ∀ k : StreamId, streamState[k] = if s.cfg.streamState[k] = .retiring then .on else s.cfg.streamState[k]) ∧
    (s.cfg.slot.state ≠ .pending → exec .cancel s = .next (refused 0x06 .nothingPending)) ∧
    (s.cfg.slot.state = .pending →
      exec .commit s = .next busy ∧ exec .revert s = .next busy ∧ exec .ack s = .next busy ∧
      exec .retire s = .next busy ∧ exec .restart s = .next busy) ∧
    (∀ code : Byte, namesCommand code = true ↔ 1 ≤ code.toNat ∧ code.toNat ≤ 6) ∧
    (∀ code : Byte, namesCommand code = false →
      (s.cfg.slot.state = .pending → exec (.unknownCode code) s = .next busy) ∧
      (s.cfg.slot.state ≠ .pending → exec (.unknownCode code) s = .next (refused code .unknown))) ∧
    exec (.unknownCode 0x01) s = exec .commit s ∧ exec (.unknownCode 0x02) s = exec .revert s ∧
    exec (.unknownCode 0x03) s = exec .ack s ∧ exec (.unknownCode 0x04) s = exec .retire s ∧
    exec (.unknownCode 0x05) s = exec .restart s ∧ exec (.unknownCode 0x06) s = exec .cancel s

/-- O48 (R167). ALERT# is driven low exactly when the alert hold is off and some set status has its mask bit clear. -/
def Obligations.AlertLine : Prop :=
  ∀ a : Alarm, a.driven = true ↔ a.hold = false ∧
    ((∃ i : Fin 7, a.globalStatus.getLsbD i.val = true ∧ a.globalMask.getLsbD i.val = false) ∨
      ∃ (k : StreamId) (i : Fin 6), (a.status[k]).getLsbD i.val = true ∧ (a.mask[k]).getLsbD i.val = false)

/-! ### Invariants: what every step keeps -/

/-- O49 (R20, R21). The local response list never holds more than 8 entries, and a place is free only while no offer waits. -/
def Obligations.ListInvariant : Prop :=
  ∀ s t : State, s.ListSound → step s = .next t → t.ListSound

/-- O50 (R174, R175). The active copy passes every static check at all times, and so does the staged copy while a COMMIT is PENDING; a
stream's state follows its active state request, and a stream is RETIRING only while a RETIRE is PENDING. -/
def Obligations.ConfigurationInvariant : Prop :=
  ∀ s t : State, s.ConfigSound → s.StreamsSound → step s = .next t → t.ConfigSound ∧ t.StreamsSound

/-- O51 (R48, R49). The balance of every stream that is not PROTECTED lies between -256 and its ceiling, and that of a PROTECTED
stream is 0; every transaction that may still be issued is well formed. -/
def Obligations.BalanceInvariant : Prop :=
  ∀ s t : State, s.RequestsSound → s.BalancesSound → step s = .next t → t.RequestsSound ∧ t.BalancesSound

/-- O52 (R78). After every event the guard count of each WAITING transaction is the number of older WAITING transactions that
conflict with it. -/
def Obligations.GuardInvariant : Prop :=
  ∀ s t : State, guardsSound [] s.pool → step s = .next t → guardsSound [] t.pool

/-- O53 (R62, R64). No stream occupies more slots than its max slots, and the shared-in-use never exceeds the shared size; so, with a
checked configuration, the pool never holds more than 64 transactions. -/
def Obligations.SlotInvariant : Prop :=
  (∀ s t : State, s.SlotsSound → step s = .next t → t.SlotsSound) ∧
  ∀ s : State, s.ConfigSound → s.SlotsSound → s.pool.length ≤ 64

/-- O54 (R5, R82, R178). The pool is empty in PASS and holds transactions in DRAINING, and the entry stage waits only for what its
regime has. -/
def Obligations.RegimeInvariant : Prop :=
  ∀ s t : State, s.RegimeSound → step s = .next t → t.RegimeSound

/-- O55 (R138, R152). In NORMAL every effective rate lies between its floor and its max rate; in EMERGENCY every BULK rate is 0 and
every PACED rate its floor; outside REGULATE the pressure state is NORMAL. -/
def Obligations.RateInvariant : Prop :=
  ∀ s t : State, s.ResetSound → s.ConfigSound → s.RatesSound → step s = .next t → t.ResetSound ∧ t.ConfigSound ∧ t.RatesSound

/-- O56 (R163). Whenever an item's watch mode is LEVEL, the status of its cause equals the item's state. -/
def Obligations.LevelStatusInvariant : Prop :=
  ∀ s t : State, s.LevelsSound → step s = .next t → t.LevelsSound

/-- O57 (R18, R21, R22). The tag map holds the pair of every resident transaction, no other, and none twice: a transaction stands in
exactly one of the entry stage, the pool, the in-flight table and the local response list; and every waiting offer stands for
its own transaction. -/
def Obligations.TagMapInvariant : Prop :=
  ∀ s t : State, s.TagsSound → s.OffersSound → s.stage.registeredWait → step s = .next t →
    t.TagsSound ∧ t.OffersSound ∧ t.stage.registeredWait

/-- O58 (R56). At every moment a stream that meets the conditions of starving has its starved flag set. -/
def Obligations.StarvedInvariant : Prop :=
  ∀ s t : State, s.ResetSound → s.StarvedSound → step s = .next t → t.ResetSound ∧ t.StarvedSound

/-- O59 (R3, R99, R101). A response stands offered at the downstream port exactly for the one ACTIVE entry that holds a response. -/
def Obligations.HeldResponseInvariant : Prop :=
  ∀ s t : State, s.HeldResponseSound → step s = .next t → t.HeldResponseSound

/-- O60. The machine right after reset meets every invariant above. -/
def Obligations.ResetMeetsTheInvariants : Prop :=
  let s := State.reset
  s.ResetSound ∧ s.ListSound ∧ s.ConfigSound ∧ s.StreamsSound ∧ s.RequestsSound ∧ s.BalancesSound ∧
    guardsSound [] s.pool ∧ s.SlotsSound ∧ s.RegimeSound ∧ s.RatesSound ∧ s.LevelsSound ∧ s.TagsSound ∧ s.OffersSound ∧
    s.stage.registeredWait ∧ s.StarvedSound ∧ s.HeldResponseSound
end

