-- ==== Sys2Proof/Laws/State.lean ====
section
/-! SUPPORT. What each named update of the state leaves unchanged, field by field. -/

namespace Sys2Proof.Machine

/-- A per-stream cause changes the stream statuses only. -/
@[simp] theorem raiseStream_frame (k : StreamId) (c : StreamCause) (s : State) :
    (raiseStream k c s).now = s.now ∧ (raiseStream k c s).pins = s.pins ∧ (raiseStream k c s).stage = s.stage ∧
    (raiseStream k c s).tagMap = s.tagMap ∧ (raiseStream k c s).localList = s.localList ∧
    (raiseStream k c s).offers = s.offers ∧ (raiseStream k c s).preferred = s.preferred ∧
    (raiseStream k c s).pool = s.pool ∧ (raiseStream k c s).acceptCtr = s.acceptCtr ∧
    (raiseStream k c s).accounts = s.accounts ∧ (raiseStream k c s).refillDue = s.refillDue ∧
    (raiseStream k c s).arb = s.arb ∧ (raiseStream k c s).table = s.table ∧ (raiseStream k c s).downResp = s.downResp ∧
    (raiseStream k c s).mon = s.mon ∧ (raiseStream k c s).gov = s.gov ∧
    (raiseStream k c s).alm.globalStatus = s.alm.globalStatus ∧ (raiseStream k c s).alm.mask = s.alm.mask ∧
    (raiseStream k c s).alm.globalMask = s.alm.globalMask ∧ (raiseStream k c s).alm.hold = s.alm.hold ∧
    (raiseStream k c s).cfg = s.cfg ∧ (raiseStream k c s).link = s.link ∧ (raiseStream k c s).ports = s.ports ∧
    (raiseStream k c s).pending = s.pending := by
  simp [raiseStream, Alarm.set]

/-- A global cause changes the global statuses only. -/
@[simp] theorem raiseGlobal_frame (c : GlobalCause) (s : State) :
    (raiseGlobal c s).now = s.now ∧ (raiseGlobal c s).pins = s.pins ∧ (raiseGlobal c s).stage = s.stage ∧
    (raiseGlobal c s).tagMap = s.tagMap ∧ (raiseGlobal c s).localList = s.localList ∧
    (raiseGlobal c s).offers = s.offers ∧ (raiseGlobal c s).preferred = s.preferred ∧ (raiseGlobal c s).pool = s.pool ∧
    (raiseGlobal c s).acceptCtr = s.acceptCtr ∧ (raiseGlobal c s).accounts = s.accounts ∧
    (raiseGlobal c s).refillDue = s.refillDue ∧ (raiseGlobal c s).arb = s.arb ∧ (raiseGlobal c s).table = s.table ∧
    (raiseGlobal c s).downResp = s.downResp ∧ (raiseGlobal c s).mon = s.mon ∧ (raiseGlobal c s).gov = s.gov ∧
    (raiseGlobal c s).alm.status = s.alm.status ∧ (raiseGlobal c s).alm.mask = s.alm.mask ∧
    (raiseGlobal c s).alm.globalMask = s.alm.globalMask ∧ (raiseGlobal c s).alm.hold = s.alm.hold ∧
    (raiseGlobal c s).cfg = s.cfg ∧ (raiseGlobal c s).link = s.link ∧ (raiseGlobal c s).ports = s.ports ∧
    (raiseGlobal c s).pending = s.pending := by
  simp [raiseGlobal]

/-- A counted event changes the accumulators only. -/
@[simp] theorem countTo_frame (k : Option StreamId) (f : Acc → Acc) (s : State) :
    (countTo k f s).now = s.now ∧ (countTo k f s).pins = s.pins ∧ (countTo k f s).stage = s.stage ∧
    (countTo k f s).tagMap = s.tagMap ∧ (countTo k f s).localList = s.localList ∧ (countTo k f s).offers = s.offers ∧
    (countTo k f s).preferred = s.preferred ∧ (countTo k f s).pool = s.pool ∧ (countTo k f s).acceptCtr = s.acceptCtr ∧
    (countTo k f s).accounts = s.accounts ∧ (countTo k f s).refillDue = s.refillDue ∧ (countTo k f s).arb = s.arb ∧
    (countTo k f s).table = s.table ∧ (countTo k f s).downResp = s.downResp ∧
    (countTo k f s).mon.epochStart = s.mon.epochStart ∧ (countTo k f s).mon.epochEnd = s.mon.epochEnd ∧
    (countTo k f s).mon.epochLen = s.mon.epochLen ∧ (countTo k f s).mon.regulated = s.mon.regulated ∧
    (countTo k f s).mon.adjustDue = s.mon.adjustDue ∧ (countTo k f s).mon.seq = s.mon.seq ∧
    (countTo k f s).mon.span = s.mon.span ∧ (countTo k f s).mon.duplicate = s.mon.duplicate ∧
    (countTo k f s).mon.orphan = s.mon.orphan ∧ (countTo k f s).mon.discard = s.mon.discard ∧
    (countTo k f s).mon.reports = s.mon.reports ∧ (countTo k f s).mon.greport = s.mon.greport ∧
    (countTo k f s).mon.watches = s.mon.watches ∧ (countTo k f s).gov = s.gov ∧ (countTo k f s).alm = s.alm ∧
    (countTo k f s).cfg = s.cfg ∧ (countTo k f s).link = s.link ∧ (countTo k f s).ports = s.ports ∧
    (countTo k f s).pending = s.pending := by
  simp [countTo]

/-- A change of the pool changes the pool and the peaks only. -/
@[simp] theorem setPool_frame (pool : List Held) (s : State) :
    (setPool pool s).now = s.now ∧ (setPool pool s).pins = s.pins ∧ (setPool pool s).stage = s.stage ∧
    (setPool pool s).tagMap = s.tagMap ∧ (setPool pool s).localList = s.localList ∧ (setPool pool s).offers = s.offers ∧
    (setPool pool s).preferred = s.preferred ∧ (setPool pool s).acceptCtr = s.acceptCtr ∧
    (setPool pool s).accounts = s.accounts ∧ (setPool pool s).refillDue = s.refillDue ∧ (setPool pool s).arb = s.arb ∧
    (setPool pool s).table = s.table ∧ (setPool pool s).downResp = s.downResp ∧
    (setPool pool s).mon.epochStart = s.mon.epochStart ∧ (setPool pool s).mon.epochEnd = s.mon.epochEnd ∧
    (setPool pool s).mon.epochLen = s.mon.epochLen ∧ (setPool pool s).mon.regulated = s.mon.regulated ∧
    (setPool pool s).mon.adjustDue = s.mon.adjustDue ∧ (setPool pool s).mon.seq = s.mon.seq ∧
    (setPool pool s).mon.span = s.mon.span ∧ (setPool pool s).mon.duplicate = s.mon.duplicate ∧
    (setPool pool s).mon.orphan = s.mon.orphan ∧ (setPool pool s).mon.discard = s.mon.discard ∧
    (setPool pool s).mon.reports = s.mon.reports ∧ (setPool pool s).mon.greport = s.mon.greport ∧
    (setPool pool s).mon.watches = s.mon.watches ∧ (setPool pool s).gov = s.gov ∧ (setPool pool s).alm = s.alm ∧
    (setPool pool s).cfg = s.cfg ∧ (setPool pool s).link = s.link ∧ (setPool pool s).ports = s.ports ∧
    (setPool pool s).pending = s.pending := by
  simp [setPool, notePeaks]

/-- Marking changes the starved flags only. -/
@[simp] theorem markStarved_frame (s : State) :
    (markStarved s).now = s.now ∧ (markStarved s).pins = s.pins ∧ (markStarved s).stage = s.stage ∧
    (markStarved s).tagMap = s.tagMap ∧ (markStarved s).localList = s.localList ∧ (markStarved s).offers = s.offers ∧
    (markStarved s).preferred = s.preferred ∧ (markStarved s).pool = s.pool ∧ (markStarved s).acceptCtr = s.acceptCtr ∧
    (markStarved s).refillDue = s.refillDue ∧ (markStarved s).arb = s.arb ∧ (markStarved s).table = s.table ∧
    (markStarved s).downResp = s.downResp ∧ (markStarved s).mon = s.mon ∧ (markStarved s).gov = s.gov ∧
    (markStarved s).alm = s.alm ∧ (markStarved s).cfg = s.cfg ∧ (markStarved s).link = s.link ∧
    (markStarved s).ports = s.ports ∧ (markStarved s).pending = s.pending := by
  simp [markStarved]

/-- A result changes the slot and the global statuses only. -/
@[simp] theorem finishCommand_frame (st : SlotState) (r : Result) (d : Detail) (s : State) :
    (finishCommand st r d s).now = s.now ∧ (finishCommand st r d s).pins = s.pins ∧
    (finishCommand st r d s).stage = s.stage ∧ (finishCommand st r d s).tagMap = s.tagMap ∧
    (finishCommand st r d s).localList = s.localList ∧ (finishCommand st r d s).offers = s.offers ∧
    (finishCommand st r d s).preferred = s.preferred ∧ (finishCommand st r d s).pool = s.pool ∧
    (finishCommand st r d s).acceptCtr = s.acceptCtr ∧ (finishCommand st r d s).accounts = s.accounts ∧
    (finishCommand st r d s).refillDue = s.refillDue ∧ (finishCommand st r d s).arb = s.arb ∧
    (finishCommand st r d s).table = s.table ∧ (finishCommand st r d s).downResp = s.downResp ∧
    (finishCommand st r d s).mon = s.mon ∧ (finishCommand st r d s).gov = s.gov ∧
    (finishCommand st r d s).alm.status = s.alm.status ∧ (finishCommand st r d s).alm.mask = s.alm.mask ∧
    (finishCommand st r d s).alm.globalMask = s.alm.globalMask ∧ (finishCommand st r d s).alm.hold = s.alm.hold ∧
    (finishCommand st r d s).cfg.staged = s.cfg.staged ∧ (finishCommand st r d s).cfg.active = s.cfg.active ∧
    (finishCommand st r d s).cfg.streamState = s.cfg.streamState ∧ (finishCommand st r d s).cfg.regime = s.cfg.regime ∧
    (finishCommand st r d s).cfg.reqArgs = s.cfg.reqArgs ∧ (finishCommand st r d s).link = s.link ∧
    (finishCommand st r d s).ports = s.ports ∧ (finishCommand st r d s).pending = s.pending := by
  simp [finishCommand]

/-- What a placement leaves alone. -/
@[simp] theorem place_frame (req : Request) (k : StreamId) (s : State) :
    (place req k s).now = s.now ∧ (place req k s).pins = s.pins ∧ (place req k s).tagMap = s.tagMap ∧
    (place req k s).localList = s.localList ∧ (place req k s).offers = s.offers ∧
    (place req k s).preferred = s.preferred ∧ (place req k s).accounts = s.accounts ∧
    (place req k s).refillDue = s.refillDue ∧ (place req k s).arb = s.arb ∧ (place req k s).table = s.table ∧
    (place req k s).downResp = s.downResp ∧ (place req k s).mon.epochStart = s.mon.epochStart ∧
    (place req k s).mon.epochEnd = s.mon.epochEnd ∧ (place req k s).mon.epochLen = s.mon.epochLen ∧
    (place req k s).mon.regulated = s.mon.regulated ∧ (place req k s).mon.adjustDue = s.mon.adjustDue ∧
    (place req k s).mon.seq = s.mon.seq ∧ (place req k s).mon.span = s.mon.span ∧
    (place req k s).mon.duplicate = s.mon.duplicate ∧ (place req k s).mon.orphan = s.mon.orphan ∧
    (place req k s).mon.discard = s.mon.discard ∧ (place req k s).mon.reports = s.mon.reports ∧
    (place req k s).mon.greport = s.mon.greport ∧ (place req k s).mon.watches = s.mon.watches ∧
    (place req k s).gov = s.gov ∧ (place req k s).alm = s.alm ∧ (place req k s).cfg = s.cfg ∧
    (place req k s).link = s.link ∧ (place req k s).ports = s.ports ∧ (place req k s).pending = s.pending := by
  simp [place]

/-- What an issue to an entry leaves alone. -/
@[simp] theorem sendDown_frame (n : EntryId) (req : Request) (k : Option StreamId) (s : State) :
    (sendDown n req k s).now = s.now ∧ (sendDown n req k s).pins = s.pins ∧ (sendDown n req k s).stage = s.stage ∧
    (sendDown n req k s).tagMap = s.tagMap ∧ (sendDown n req k s).localList = s.localList ∧
    (sendDown n req k s).offers = s.offers ∧ (sendDown n req k s).preferred = s.preferred ∧
    (sendDown n req k s).pool = s.pool ∧ (sendDown n req k s).acceptCtr = s.acceptCtr ∧
    (sendDown n req k s).accounts = s.accounts ∧ (sendDown n req k s).refillDue = s.refillDue ∧
    (sendDown n req k s).arb = s.arb ∧ (sendDown n req k s).downResp = s.downResp ∧
    (sendDown n req k s).mon.epochStart = s.mon.epochStart ∧ (sendDown n req k s).mon.epochEnd = s.mon.epochEnd ∧
    (sendDown n req k s).mon.epochLen = s.mon.epochLen ∧ (sendDown n req k s).mon.regulated = s.mon.regulated ∧
    (sendDown n req k s).mon.adjustDue = s.mon.adjustDue ∧ (sendDown n req k s).mon.seq = s.mon.seq ∧
    (sendDown n req k s).mon.span = s.mon.span ∧ (sendDown n req k s).mon.duplicate = s.mon.duplicate ∧
    (sendDown n req k s).mon.orphan = s.mon.orphan ∧ (sendDown n req k s).mon.discard = s.mon.discard ∧
    (sendDown n req k s).mon.reports = s.mon.reports ∧ (sendDown n req k s).mon.greport = s.mon.greport ∧
    (sendDown n req k s).mon.watches = s.mon.watches ∧ (sendDown n req k s).gov = s.gov ∧
    (sendDown n req k s).alm = s.alm ∧ (sendDown n req k s).cfg = s.cfg ∧ (sendDown n req k s).link = s.link ∧
    (sendDown n req k s).ports.upSent = s.ports.upSent ∧ (sendDown n req k s).ports.linkSent = s.ports.linkSent ∧
    (sendDown n req k s).ports.linkAck = s.ports.linkAck ∧ (sendDown n req k s).pending = s.pending := by
  simp [sendDown]

/-- A charge changes the accounts only. -/
@[simp] theorem charge_frame (k : StreamId) (bytes : Nat) (s : State) :
    (charge k bytes s).now = s.now ∧ (charge k bytes s).pins = s.pins ∧ (charge k bytes s).stage = s.stage ∧
    (charge k bytes s).tagMap = s.tagMap ∧ (charge k bytes s).localList = s.localList ∧
    (charge k bytes s).offers = s.offers ∧ (charge k bytes s).preferred = s.preferred ∧ (charge k bytes s).pool = s.pool ∧
    (charge k bytes s).acceptCtr = s.acceptCtr ∧ (charge k bytes s).refillDue = s.refillDue ∧
    (charge k bytes s).arb = s.arb ∧ (charge k bytes s).table = s.table ∧ (charge k bytes s).downResp = s.downResp ∧
    (charge k bytes s).mon = s.mon ∧ (charge k bytes s).gov = s.gov ∧ (charge k bytes s).alm = s.alm ∧
    (charge k bytes s).cfg = s.cfg ∧ (charge k bytes s).link = s.link ∧ (charge k bytes s).ports = s.ports ∧
    (charge k bytes s).pending = s.pending := by
  unfold charge; split <;> simp

/-- What the completion of a retirement leaves alone. -/
@[simp] theorem completeRetirement_frame (k : StreamId) (s : State) :
    (completeRetirement k s).now = s.now ∧ (completeRetirement k s).pins = s.pins ∧
    (completeRetirement k s).stage = s.stage ∧ (completeRetirement k s).tagMap = s.tagMap ∧
    (completeRetirement k s).localList = s.localList ∧ (completeRetirement k s).offers = s.offers ∧
    (completeRetirement k s).preferred = s.preferred ∧ (completeRetirement k s).pool = s.pool ∧
    (completeRetirement k s).acceptCtr = s.acceptCtr ∧ (completeRetirement k s).accounts = s.accounts ∧
    (completeRetirement k s).refillDue = s.refillDue ∧ (completeRetirement k s).arb = s.arb ∧
    (completeRetirement k s).table = s.table ∧ (completeRetirement k s).downResp = s.downResp ∧
    (completeRetirement k s).mon = s.mon ∧ (completeRetirement k s).gov = s.gov ∧
    (completeRetirement k s).alm.status = s.alm.status ∧ (completeRetirement k s).alm.mask = s.alm.mask ∧
    (completeRetirement k s).alm.globalMask = s.alm.globalMask ∧ (completeRetirement k s).alm.hold = s.alm.hold ∧
    (completeRetirement k s).cfg.regime = s.cfg.regime ∧ (completeRetirement k s).cfg.reqArgs = s.cfg.reqArgs ∧
    (completeRetirement k s).link = s.link ∧ (completeRetirement k s).ports = s.ports ∧
    (completeRetirement k s).pending = s.pending := by
  simp [completeRetirement]

/-- A new epoch changes the epoch timer and its flag only. -/
@[simp] theorem beginEpoch_frame (start : Nat) (s : State) :
    (beginEpoch start s).now = s.now ∧ (beginEpoch start s).pins = s.pins ∧ (beginEpoch start s).stage = s.stage ∧
    (beginEpoch start s).tagMap = s.tagMap ∧ (beginEpoch start s).localList = s.localList ∧
    (beginEpoch start s).offers = s.offers ∧ (beginEpoch start s).preferred = s.preferred ∧
    (beginEpoch start s).pool = s.pool ∧ (beginEpoch start s).acceptCtr = s.acceptCtr ∧
    (beginEpoch start s).accounts = s.accounts ∧ (beginEpoch start s).refillDue = s.refillDue ∧
    (beginEpoch start s).arb = s.arb ∧ (beginEpoch start s).table = s.table ∧ (beginEpoch start s).downResp = s.downResp ∧
    (beginEpoch start s).mon.adjustDue = s.mon.adjustDue ∧ (beginEpoch start s).mon.seq = s.mon.seq ∧
    (beginEpoch start s).mon.acc = s.mon.acc ∧ (beginEpoch start s).mon.gacc = s.mon.gacc ∧
    (beginEpoch start s).mon.span = s.mon.span ∧ (beginEpoch start s).mon.duplicate = s.mon.duplicate ∧
    (beginEpoch start s).mon.orphan = s.mon.orphan ∧ (beginEpoch start s).mon.discard = s.mon.discard ∧
    (beginEpoch start s).mon.reports = s.mon.reports ∧ (beginEpoch start s).mon.greport = s.mon.greport ∧
    (beginEpoch start s).mon.watches = s.mon.watches ∧ (beginEpoch start s).gov = s.gov ∧
    (beginEpoch start s).alm = s.alm ∧ (beginEpoch start s).cfg = s.cfg ∧ (beginEpoch start s).link = s.link ∧
    (beginEpoch start s).ports = s.ports ∧ (beginEpoch start s).pending = s.pending := by
  simp [beginEpoch]

/-- Counting a refusal changes the accumulators only. -/
@[simp] theorem countRefusal_frame (r : Reason) (k : Option StreamId) (s : State) :
    (countRefusal r k s).now = s.now ∧ (countRefusal r k s).pins = s.pins ∧ (countRefusal r k s).stage = s.stage ∧
    (countRefusal r k s).tagMap = s.tagMap ∧ (countRefusal r k s).localList = s.localList ∧
    (countRefusal r k s).offers = s.offers ∧ (countRefusal r k s).preferred = s.preferred ∧
    (countRefusal r k s).pool = s.pool ∧ (countRefusal r k s).acceptCtr = s.acceptCtr ∧
    (countRefusal r k s).accounts = s.accounts ∧ (countRefusal r k s).refillDue = s.refillDue ∧
    (countRefusal r k s).arb = s.arb ∧ (countRefusal r k s).table = s.table ∧ (countRefusal r k s).downResp = s.downResp ∧
    (countRefusal r k s).mon.epochStart = s.mon.epochStart ∧ (countRefusal r k s).mon.epochEnd = s.mon.epochEnd ∧
    (countRefusal r k s).mon.epochLen = s.mon.epochLen ∧ (countRefusal r k s).mon.regulated = s.mon.regulated ∧
    (countRefusal r k s).mon.adjustDue = s.mon.adjustDue ∧ (countRefusal r k s).mon.seq = s.mon.seq ∧
    (countRefusal r k s).mon.orphan = s.mon.orphan ∧ (countRefusal r k s).mon.discard = s.mon.discard ∧
    (countRefusal r k s).mon.reports = s.mon.reports ∧ (countRefusal r k s).mon.greport = s.mon.greport ∧
    (countRefusal r k s).mon.watches = s.mon.watches ∧ (countRefusal r k s).gov = s.gov ∧
    (countRefusal r k s).alm = s.alm ∧ (countRefusal r k s).cfg = s.cfg ∧ (countRefusal r k s).link = s.link ∧
    (countRefusal r k s).ports = s.ports ∧ (countRefusal r k s).pending = s.pending := by
  cases r <;> simp [countRefusal]

/-- Raising a refusal changes the statuses only. -/
@[simp] theorem raiseRefusal_frame (r : Reason) (k : Option StreamId) (s : State) :
    (raiseRefusal r k s).now = s.now ∧ (raiseRefusal r k s).pins = s.pins ∧ (raiseRefusal r k s).stage = s.stage ∧
    (raiseRefusal r k s).tagMap = s.tagMap ∧ (raiseRefusal r k s).localList = s.localList ∧
    (raiseRefusal r k s).offers = s.offers ∧ (raiseRefusal r k s).preferred = s.preferred ∧
    (raiseRefusal r k s).pool = s.pool ∧ (raiseRefusal r k s).acceptCtr = s.acceptCtr ∧
    (raiseRefusal r k s).accounts = s.accounts ∧ (raiseRefusal r k s).refillDue = s.refillDue ∧
    (raiseRefusal r k s).arb = s.arb ∧ (raiseRefusal r k s).table = s.table ∧ (raiseRefusal r k s).downResp = s.downResp ∧
    (raiseRefusal r k s).mon = s.mon ∧ (raiseRefusal r k s).gov = s.gov ∧ (raiseRefusal r k s).alm.mask = s.alm.mask ∧
    (raiseRefusal r k s).alm.globalMask = s.alm.globalMask ∧ (raiseRefusal r k s).alm.hold = s.alm.hold ∧
    (raiseRefusal r k s).cfg = s.cfg ∧ (raiseRefusal r k s).link = s.link ∧ (raiseRefusal r k s).ports = s.ports ∧
    (raiseRefusal r k s).pending = s.pending := by
  unfold raiseRefusal; split <;> simp

/-- The QUARANTINE crossing changes the global statuses only. -/
@[simp] theorem raiseQuarantine_frame (b s : State) :
    (raiseQuarantine b s).now = s.now ∧ (raiseQuarantine b s).pins = s.pins ∧ (raiseQuarantine b s).stage = s.stage ∧
    (raiseQuarantine b s).tagMap = s.tagMap ∧ (raiseQuarantine b s).localList = s.localList ∧
    (raiseQuarantine b s).offers = s.offers ∧ (raiseQuarantine b s).preferred = s.preferred ∧
    (raiseQuarantine b s).pool = s.pool ∧ (raiseQuarantine b s).acceptCtr = s.acceptCtr ∧
    (raiseQuarantine b s).accounts = s.accounts ∧ (raiseQuarantine b s).refillDue = s.refillDue ∧
    (raiseQuarantine b s).arb = s.arb ∧ (raiseQuarantine b s).table = s.table ∧
    (raiseQuarantine b s).downResp = s.downResp ∧ (raiseQuarantine b s).mon = s.mon ∧ (raiseQuarantine b s).gov = s.gov ∧
    (raiseQuarantine b s).alm.status = s.alm.status ∧ (raiseQuarantine b s).alm.mask = s.alm.mask ∧
    (raiseQuarantine b s).alm.globalMask = s.alm.globalMask ∧ (raiseQuarantine b s).alm.hold = s.alm.hold ∧
    (raiseQuarantine b s).cfg = s.cfg ∧ (raiseQuarantine b s).link = s.link ∧ (raiseQuarantine b s).ports = s.ports ∧
    (raiseQuarantine b s).pending = s.pending := by
  unfold raiseQuarantine; split <;> simp

/-- What follows an event changes the starved flags and the QUARANTINE status only. -/
@[simp] theorem finish_frame (b s : State) :
    (finish b s).now = s.now ∧ (finish b s).pins = s.pins ∧ (finish b s).stage = s.stage ∧
    (finish b s).tagMap = s.tagMap ∧ (finish b s).localList = s.localList ∧ (finish b s).offers = s.offers ∧
    (finish b s).preferred = s.preferred ∧ (finish b s).pool = s.pool ∧ (finish b s).acceptCtr = s.acceptCtr ∧
    (finish b s).refillDue = s.refillDue ∧ (finish b s).arb = s.arb ∧ (finish b s).table = s.table ∧
    (finish b s).downResp = s.downResp ∧ (finish b s).mon = s.mon ∧ (finish b s).gov = s.gov ∧
    (finish b s).alm.status = s.alm.status ∧ (finish b s).alm.mask = s.alm.mask ∧
    (finish b s).alm.globalMask = s.alm.globalMask ∧ (finish b s).alm.hold = s.alm.hold ∧ (finish b s).cfg = s.cfg ∧
    (finish b s).link = s.link ∧ (finish b s).ports = s.ports ∧ (finish b s).pending = s.pending := by
  simp [finish]

/-- A response sent changes the upstream record only. -/
@[simp] theorem sendUp_frame (r : UpResponse) (s : State) :
    (sendUp r s).now = s.now ∧ (sendUp r s).pins = s.pins ∧ (sendUp r s).stage = s.stage ∧
    (sendUp r s).tagMap = s.tagMap ∧ (sendUp r s).localList = s.localList ∧ (sendUp r s).offers = s.offers ∧
    (sendUp r s).preferred = s.preferred ∧ (sendUp r s).pool = s.pool ∧ (sendUp r s).acceptCtr = s.acceptCtr ∧
    (sendUp r s).accounts = s.accounts ∧ (sendUp r s).refillDue = s.refillDue ∧ (sendUp r s).arb = s.arb ∧
    (sendUp r s).table = s.table ∧ (sendUp r s).downResp = s.downResp ∧ (sendUp r s).mon = s.mon ∧
    (sendUp r s).gov = s.gov ∧ (sendUp r s).alm = s.alm ∧ (sendUp r s).cfg = s.cfg ∧ (sendUp r s).link = s.link ∧
    (sendUp r s).ports.downSent = s.ports.downSent ∧ (sendUp r s).ports.linkSent = s.ports.linkSent ∧
    (sendUp r s).ports.linkAck = s.ports.linkAck ∧ (sendUp r s).pending = s.pending := by
  simp [sendUp]

/-- A pair leaves the tag map; nothing else changes. -/
@[simp] theorem dropPair_frame (p : TagPair) (s : State) :
    (dropPair p s).now = s.now ∧ (dropPair p s).pins = s.pins ∧ (dropPair p s).stage = s.stage ∧
    (dropPair p s).localList = s.localList ∧ (dropPair p s).offers = s.offers ∧ (dropPair p s).preferred = s.preferred ∧
    (dropPair p s).pool = s.pool ∧ (dropPair p s).acceptCtr = s.acceptCtr ∧ (dropPair p s).accounts = s.accounts ∧
    (dropPair p s).refillDue = s.refillDue ∧ (dropPair p s).arb = s.arb ∧ (dropPair p s).table = s.table ∧
    (dropPair p s).downResp = s.downResp ∧ (dropPair p s).mon = s.mon ∧ (dropPair p s).gov = s.gov ∧
    (dropPair p s).alm = s.alm ∧ (dropPair p s).cfg = s.cfg ∧ (dropPair p s).link = s.link ∧
    (dropPair p s).ports = s.ports ∧ (dropPair p s).pending = s.pending := by
  simp [dropPair]

/-- A held response changes its entry and the offered response only. -/
@[simp] theorem holdResponse_frame (n : EntryId) (t : Flight) (r : MemResponse) (s : State) :
    (holdResponse n t r s).now = s.now ∧ (holdResponse n t r s).pins = s.pins ∧ (holdResponse n t r s).stage = s.stage ∧
    (holdResponse n t r s).tagMap = s.tagMap ∧ (holdResponse n t r s).localList = s.localList ∧
    (holdResponse n t r s).offers = s.offers ∧ (holdResponse n t r s).preferred = s.preferred ∧
    (holdResponse n t r s).pool = s.pool ∧ (holdResponse n t r s).acceptCtr = s.acceptCtr ∧
    (holdResponse n t r s).accounts = s.accounts ∧ (holdResponse n t r s).refillDue = s.refillDue ∧
    (holdResponse n t r s).arb = s.arb ∧ (holdResponse n t r s).mon = s.mon ∧ (holdResponse n t r s).gov = s.gov ∧
    (holdResponse n t r s).alm = s.alm ∧ (holdResponse n t r s).cfg = s.cfg ∧ (holdResponse n t r s).link = s.link ∧
    (holdResponse n t r s).ports = s.ports ∧ (holdResponse n t r s).pending = s.pending := by
  simp [holdResponse]

/-- An orphan changes its count and its cause only. -/
@[simp] theorem orphan_frame (s : State) :
    (orphan s).now = s.now ∧ (orphan s).pins = s.pins ∧ (orphan s).stage = s.stage ∧ (orphan s).tagMap = s.tagMap ∧
    (orphan s).localList = s.localList ∧ (orphan s).offers = s.offers ∧ (orphan s).preferred = s.preferred ∧
    (orphan s).pool = s.pool ∧ (orphan s).acceptCtr = s.acceptCtr ∧ (orphan s).accounts = s.accounts ∧
    (orphan s).refillDue = s.refillDue ∧ (orphan s).arb = s.arb ∧ (orphan s).table = s.table ∧
    (orphan s).downResp = s.downResp ∧ (orphan s).mon.epochStart = s.mon.epochStart ∧
    (orphan s).mon.epochEnd = s.mon.epochEnd ∧ (orphan s).mon.epochLen = s.mon.epochLen ∧
    (orphan s).mon.regulated = s.mon.regulated ∧ (orphan s).mon.adjustDue = s.mon.adjustDue ∧
    (orphan s).mon.seq = s.mon.seq ∧ (orphan s).mon.acc = s.mon.acc ∧ (orphan s).mon.gacc = s.mon.gacc ∧
    (orphan s).mon.span = s.mon.span ∧ (orphan s).mon.duplicate = s.mon.duplicate ∧
    (orphan s).mon.discard = s.mon.discard ∧ (orphan s).mon.reports = s.mon.reports ∧
    (orphan s).mon.greport = s.mon.greport ∧ (orphan s).mon.watches = s.mon.watches ∧ (orphan s).gov = s.gov ∧
    (orphan s).alm.status = s.alm.status ∧ (orphan s).alm.mask = s.alm.mask ∧
    (orphan s).alm.globalMask = s.alm.globalMask ∧ (orphan s).alm.hold = s.alm.hold ∧ (orphan s).cfg = s.cfg ∧
    (orphan s).link = s.link ∧ (orphan s).ports = s.ports ∧ (orphan s).pending = s.pending := by
  simp [orphan]

/-- Readiness changes one input level only. -/
@[simp] theorem setReady_frame (ready : Bool) (s : State) :
    (setReady ready s).now = s.now ∧ (setReady ready s).pins.reset = s.pins.reset ∧
    (setReady ready s).pins.urst = s.pins.urst ∧ (setReady ready s).pins.drst = s.pins.drst ∧
    (setReady ready s).pins.hot = s.pins.hot ∧ (setReady ready s).stage = s.stage ∧ (setReady ready s).tagMap = s.tagMap ∧
    (setReady ready s).localList = s.localList ∧ (setReady ready s).offers = s.offers ∧
    (setReady ready s).preferred = s.preferred ∧ (setReady ready s).pool = s.pool ∧
    (setReady ready s).acceptCtr = s.acceptCtr ∧ (setReady ready s).accounts = s.accounts ∧
    (setReady ready s).refillDue = s.refillDue ∧ (setReady ready s).arb = s.arb ∧ (setReady ready s).table = s.table ∧
    (setReady ready s).downResp = s.downResp ∧ (setReady ready s).mon = s.mon ∧ (setReady ready s).gov = s.gov ∧
    (setReady ready s).alm = s.alm ∧ (setReady ready s).cfg = s.cfg ∧ (setReady ready s).link = s.link ∧
    (setReady ready s).ports = s.ports ∧ (setReady ready s).pending = s.pending := by
  simp [setReady]

/-- A report replaces the published one; nothing else changes. -/
@[simp] theorem publishReport_frame (s : State) :
    (publishReport s).now = s.now ∧ (publishReport s).pins = s.pins ∧ (publishReport s).stage = s.stage ∧
    (publishReport s).tagMap = s.tagMap ∧ (publishReport s).localList = s.localList ∧
    (publishReport s).offers = s.offers ∧ (publishReport s).preferred = s.preferred ∧ (publishReport s).pool = s.pool ∧
    (publishReport s).acceptCtr = s.acceptCtr ∧ (publishReport s).accounts = s.accounts ∧
    (publishReport s).refillDue = s.refillDue ∧ (publishReport s).arb = s.arb ∧ (publishReport s).table = s.table ∧
    (publishReport s).downResp = s.downResp ∧ (publishReport s).mon.epochStart = s.mon.epochStart ∧
    (publishReport s).mon.epochEnd = s.mon.epochEnd ∧ (publishReport s).mon.epochLen = s.mon.epochLen ∧
    (publishReport s).mon.regulated = s.mon.regulated ∧ (publishReport s).mon.adjustDue = s.mon.adjustDue ∧
    (publishReport s).mon.seq = s.mon.seq ∧ (publishReport s).mon.acc = s.mon.acc ∧
    (publishReport s).mon.gacc = s.mon.gacc ∧ (publishReport s).mon.span = s.mon.span ∧
    (publishReport s).mon.duplicate = s.mon.duplicate ∧ (publishReport s).mon.orphan = s.mon.orphan ∧
    (publishReport s).mon.discard = s.mon.discard ∧ (publishReport s).mon.watches = s.mon.watches ∧
    (publishReport s).gov = s.gov ∧ (publishReport s).alm = s.alm ∧ (publishReport s).cfg = s.cfg ∧
    (publishReport s).link = s.link ∧ (publishReport s).ports = s.ports ∧ (publishReport s).pending = s.pending := by
  simp [publishReport]

/-- New watches change the watches and the stream statuses only. -/
@[simp] theorem setWatches_frame (f : StreamId → Watch → Watch) (s : State) :
    (setWatches f s).now = s.now ∧ (setWatches f s).pins = s.pins ∧ (setWatches f s).stage = s.stage ∧
    (setWatches f s).tagMap = s.tagMap ∧ (setWatches f s).localList = s.localList ∧ (setWatches f s).offers = s.offers ∧
    (setWatches f s).preferred = s.preferred ∧ (setWatches f s).pool = s.pool ∧ (setWatches f s).acceptCtr = s.acceptCtr ∧
    (setWatches f s).accounts = s.accounts ∧ (setWatches f s).refillDue = s.refillDue ∧ (setWatches f s).arb = s.arb ∧
    (setWatches f s).table = s.table ∧ (setWatches f s).downResp = s.downResp ∧
    (setWatches f s).mon.epochStart = s.mon.epochStart ∧ (setWatches f s).mon.epochEnd = s.mon.epochEnd ∧
    (setWatches f s).mon.epochLen = s.mon.epochLen ∧ (setWatches f s).mon.regulated = s.mon.regulated ∧
    (setWatches f s).mon.adjustDue = s.mon.adjustDue ∧ (setWatches f s).mon.seq = s.mon.seq ∧
    (setWatches f s).mon.acc = s.mon.acc ∧ (setWatches f s).mon.gacc = s.mon.gacc ∧
    (setWatches f s).mon.span = s.mon.span ∧ (setWatches f s).mon.duplicate = s.mon.duplicate ∧
    (setWatches f s).mon.orphan = s.mon.orphan ∧ (setWatches f s).mon.discard = s.mon.discard ∧
    (setWatches f s).mon.reports = s.mon.reports ∧ (setWatches f s).mon.greport = s.mon.greport ∧
    (setWatches f s).gov = s.gov ∧ (setWatches f s).alm.globalStatus = s.alm.globalStatus ∧
    (setWatches f s).alm.mask = s.alm.mask ∧ (setWatches f s).alm.globalMask = s.alm.globalMask ∧
    (setWatches f s).alm.hold = s.alm.hold ∧ (setWatches f s).cfg = s.cfg ∧ (setWatches f s).link = s.link ∧
    (setWatches f s).ports = s.ports ∧ (setWatches f s).pending = s.pending := by
  simp [setWatches]

/-- A mode adjustment changes rates, miss counters and stream statuses only. -/
@[simp] theorem adjustModes_frame (mean : Option Nat) (s : State) :
    (adjustModes mean s).now = s.now ∧ (adjustModes mean s).pins = s.pins ∧ (adjustModes mean s).stage = s.stage ∧
    (adjustModes mean s).tagMap = s.tagMap ∧ (adjustModes mean s).localList = s.localList ∧
    (adjustModes mean s).offers = s.offers ∧ (adjustModes mean s).preferred = s.preferred ∧
    (adjustModes mean s).pool = s.pool ∧ (adjustModes mean s).acceptCtr = s.acceptCtr ∧
    (adjustModes mean s).accounts = s.accounts ∧ (adjustModes mean s).refillDue = s.refillDue ∧
    (adjustModes mean s).arb = s.arb ∧ (adjustModes mean s).table = s.table ∧ (adjustModes mean s).downResp = s.downResp ∧
    (adjustModes mean s).mon = s.mon ∧ (adjustModes mean s).gov.hotFilter = s.gov.hotFilter ∧
    (adjustModes mean s).gov.pressure = s.gov.pressure ∧ (adjustModes mean s).alm.globalStatus = s.alm.globalStatus ∧
    (adjustModes mean s).alm.mask = s.alm.mask ∧ (adjustModes mean s).alm.globalMask = s.alm.globalMask ∧
    (adjustModes mean s).alm.hold = s.alm.hold ∧ (adjustModes mean s).cfg = s.cfg ∧ (adjustModes mean s).link = s.link ∧
    (adjustModes mean s).ports = s.ports ∧ (adjustModes mean s).pending = s.pending := by
  simp [adjustModes]

/-- What the entry to EMERGENCY leaves alone. -/
@[simp] theorem enterEmergency_frame (s : State) :
    (enterEmergency s).now = s.now ∧ (enterEmergency s).pins = s.pins ∧ (enterEmergency s).stage = s.stage ∧
    (enterEmergency s).tagMap = s.tagMap ∧ (enterEmergency s).localList = s.localList ∧
    (enterEmergency s).offers = s.offers ∧ (enterEmergency s).preferred = s.preferred ∧ (enterEmergency s).pool = s.pool ∧
    (enterEmergency s).acceptCtr = s.acceptCtr ∧ (enterEmergency s).accounts = s.accounts ∧
    (enterEmergency s).refillDue = s.refillDue ∧ (enterEmergency s).arb = s.arb ∧ (enterEmergency s).table = s.table ∧
    (enterEmergency s).downResp = s.downResp ∧ (enterEmergency s).mon = s.mon ∧ (enterEmergency s).gov.miss = s.gov.miss ∧
    (enterEmergency s).gov.hotFilter = s.gov.hotFilter ∧ (enterEmergency s).alm.status = s.alm.status ∧
    (enterEmergency s).alm.mask = s.alm.mask ∧ (enterEmergency s).alm.globalMask = s.alm.globalMask ∧
    (enterEmergency s).alm.hold = s.alm.hold ∧ (enterEmergency s).cfg = s.cfg ∧ (enterEmergency s).link = s.link ∧
    (enterEmergency s).ports = s.ports ∧ (enterEmergency s).pending = s.pending := by
  simp [enterEmergency]

/-- What the exit from EMERGENCY leaves alone. -/
@[simp] theorem exitEmergency_frame (s : State) :
    (exitEmergency s).now = s.now ∧ (exitEmergency s).pins = s.pins ∧ (exitEmergency s).stage = s.stage ∧
    (exitEmergency s).tagMap = s.tagMap ∧ (exitEmergency s).localList = s.localList ∧
    (exitEmergency s).offers = s.offers ∧ (exitEmergency s).preferred = s.preferred ∧ (exitEmergency s).pool = s.pool ∧
    (exitEmergency s).acceptCtr = s.acceptCtr ∧ (exitEmergency s).accounts = s.accounts ∧
    (exitEmergency s).refillDue = s.refillDue ∧ (exitEmergency s).arb = s.arb ∧ (exitEmergency s).table = s.table ∧
    (exitEmergency s).downResp = s.downResp ∧ (exitEmergency s).mon = s.mon ∧ (exitEmergency s).gov.miss = s.gov.miss ∧
    (exitEmergency s).gov.hotFilter = s.gov.hotFilter ∧ (exitEmergency s).alm = s.alm ∧ (exitEmergency s).cfg = s.cfg ∧
    (exitEmergency s).link = s.link ∧ (exitEmergency s).ports = s.ports ∧ (exitEmergency s).pending = s.pending := by
  simp [exitEmergency]

/-- The end of DRST# changes one input level only. -/
@[simp] theorem releaseDownstream_frame (s : State) :
    (releaseDownstream s).now = s.now ∧ (releaseDownstream s).pins.reset = s.pins.reset ∧
    (releaseDownstream s).pins.urst = s.pins.urst ∧ (releaseDownstream s).pins.hot = s.pins.hot ∧
    (releaseDownstream s).pins.downReady = s.pins.downReady ∧ (releaseDownstream s).stage = s.stage ∧
    (releaseDownstream s).tagMap = s.tagMap ∧ (releaseDownstream s).localList = s.localList ∧
    (releaseDownstream s).offers = s.offers ∧ (releaseDownstream s).preferred = s.preferred ∧
    (releaseDownstream s).pool = s.pool ∧ (releaseDownstream s).acceptCtr = s.acceptCtr ∧
    (releaseDownstream s).accounts = s.accounts ∧ (releaseDownstream s).refillDue = s.refillDue ∧
    (releaseDownstream s).arb = s.arb ∧ (releaseDownstream s).table = s.table ∧
    (releaseDownstream s).downResp = s.downResp ∧ (releaseDownstream s).mon = s.mon ∧ (releaseDownstream s).gov = s.gov ∧
    (releaseDownstream s).alm = s.alm ∧ (releaseDownstream s).cfg = s.cfg ∧ (releaseDownstream s).link = s.link ∧
    (releaseDownstream s).ports = s.ports ∧ (releaseDownstream s).pending = s.pending := by
  simp [releaseDownstream]

/-- BUSY changes the slot and the global statuses only. -/
@[simp] theorem refuseBusy_frame (s : State) :
    (refuseBusy s).now = s.now ∧ (refuseBusy s).pins = s.pins ∧ (refuseBusy s).stage = s.stage ∧
    (refuseBusy s).tagMap = s.tagMap ∧ (refuseBusy s).localList = s.localList ∧ (refuseBusy s).offers = s.offers ∧
    (refuseBusy s).preferred = s.preferred ∧ (refuseBusy s).pool = s.pool ∧ (refuseBusy s).acceptCtr = s.acceptCtr ∧
    (refuseBusy s).accounts = s.accounts ∧ (refuseBusy s).refillDue = s.refillDue ∧ (refuseBusy s).arb = s.arb ∧
    (refuseBusy s).table = s.table ∧ (refuseBusy s).downResp = s.downResp ∧ (refuseBusy s).mon = s.mon ∧
    (refuseBusy s).gov = s.gov ∧ (refuseBusy s).alm.status = s.alm.status ∧ (refuseBusy s).alm.mask = s.alm.mask ∧
    (refuseBusy s).alm.globalMask = s.alm.globalMask ∧ (refuseBusy s).alm.hold = s.alm.hold ∧
    (refuseBusy s).cfg.staged = s.cfg.staged ∧ (refuseBusy s).cfg.active = s.cfg.active ∧
    (refuseBusy s).cfg.streamState = s.cfg.streamState ∧ (refuseBusy s).cfg.regime = s.cfg.regime ∧
    (refuseBusy s).cfg.reqArgs = s.cfg.reqArgs ∧ (refuseBusy s).link = s.link ∧ (refuseBusy s).ports = s.ports ∧
    (refuseBusy s).pending = s.pending := by
  simp [refuseBusy]

/-- A taken command changes the slot only. -/
@[simp] theorem takeCode_frame (code : Byte) (s : State) :
    (takeCode code s).now = s.now ∧ (takeCode code s).pins = s.pins ∧ (takeCode code s).stage = s.stage ∧
    (takeCode code s).tagMap = s.tagMap ∧ (takeCode code s).localList = s.localList ∧
    (takeCode code s).offers = s.offers ∧ (takeCode code s).preferred = s.preferred ∧ (takeCode code s).pool = s.pool ∧
    (takeCode code s).acceptCtr = s.acceptCtr ∧ (takeCode code s).accounts = s.accounts ∧
    (takeCode code s).refillDue = s.refillDue ∧ (takeCode code s).arb = s.arb ∧ (takeCode code s).table = s.table ∧
    (takeCode code s).downResp = s.downResp ∧ (takeCode code s).mon = s.mon ∧ (takeCode code s).gov = s.gov ∧
    (takeCode code s).alm = s.alm ∧ (takeCode code s).cfg.staged = s.cfg.staged ∧
    (takeCode code s).cfg.active = s.cfg.active ∧ (takeCode code s).cfg.streamState = s.cfg.streamState ∧
    (takeCode code s).cfg.regime = s.cfg.regime ∧ (takeCode code s).cfg.reqArgs = s.cfg.reqArgs ∧
    (takeCode code s).link = s.link ∧ (takeCode code s).ports = s.ports ∧ (takeCode code s).pending = s.pending := by
  simp [takeCode]

/-- A command that waits changes the slot only. -/
@[simp] theorem becomePending_frame (s : State) :
    (becomePending s).now = s.now ∧ (becomePending s).pins = s.pins ∧ (becomePending s).stage = s.stage ∧
    (becomePending s).tagMap = s.tagMap ∧ (becomePending s).localList = s.localList ∧
    (becomePending s).offers = s.offers ∧ (becomePending s).preferred = s.preferred ∧ (becomePending s).pool = s.pool ∧
    (becomePending s).acceptCtr = s.acceptCtr ∧ (becomePending s).accounts = s.accounts ∧
    (becomePending s).refillDue = s.refillDue ∧ (becomePending s).arb = s.arb ∧ (becomePending s).table = s.table ∧
    (becomePending s).downResp = s.downResp ∧ (becomePending s).mon = s.mon ∧ (becomePending s).gov = s.gov ∧
    (becomePending s).alm = s.alm ∧ (becomePending s).cfg.staged = s.cfg.staged ∧
    (becomePending s).cfg.active = s.cfg.active ∧ (becomePending s).cfg.streamState = s.cfg.streamState ∧
    (becomePending s).cfg.regime = s.cfg.regime ∧ (becomePending s).cfg.reqArgs = s.cfg.reqArgs ∧
    (becomePending s).link = s.link ∧ (becomePending s).ports = s.ports ∧ (becomePending s).pending = s.pending := by
  simp [becomePending]

/-- The start of a retirement changes the stream states and the staged copy only. -/
@[simp] theorem startRetiring_frame (k : StreamId) (s : State) :
    (startRetiring k s).now = s.now ∧ (startRetiring k s).pins = s.pins ∧ (startRetiring k s).stage = s.stage ∧
    (startRetiring k s).tagMap = s.tagMap ∧ (startRetiring k s).localList = s.localList ∧
    (startRetiring k s).offers = s.offers ∧ (startRetiring k s).preferred = s.preferred ∧
    (startRetiring k s).pool = s.pool ∧ (startRetiring k s).acceptCtr = s.acceptCtr ∧
    (startRetiring k s).accounts = s.accounts ∧ (startRetiring k s).refillDue = s.refillDue ∧
    (startRetiring k s).arb = s.arb ∧ (startRetiring k s).table = s.table ∧ (startRetiring k s).downResp = s.downResp ∧
    (startRetiring k s).mon = s.mon ∧ (startRetiring k s).gov = s.gov ∧ (startRetiring k s).alm = s.alm ∧
    (startRetiring k s).cfg.active = s.cfg.active ∧ (startRetiring k s).cfg.regime = s.cfg.regime ∧
    (startRetiring k s).cfg.slot = s.cfg.slot ∧ (startRetiring k s).cfg.reqArgs = s.cfg.reqArgs ∧
    (startRetiring k s).link = s.link ∧ (startRetiring k s).ports = s.ports ∧
    (startRetiring k s).pending = s.pending := by
  simp [startRetiring]

/-- A discarded write changes the slot only. -/
@[simp] theorem discardWrite_frame (s : State) :
    (discardWrite s).now = s.now ∧ (discardWrite s).pins = s.pins ∧ (discardWrite s).stage = s.stage ∧
    (discardWrite s).tagMap = s.tagMap ∧ (discardWrite s).localList = s.localList ∧ (discardWrite s).offers = s.offers ∧
    (discardWrite s).preferred = s.preferred ∧ (discardWrite s).pool = s.pool ∧ (discardWrite s).acceptCtr = s.acceptCtr ∧
    (discardWrite s).accounts = s.accounts ∧ (discardWrite s).refillDue = s.refillDue ∧ (discardWrite s).arb = s.arb ∧
    (discardWrite s).table = s.table ∧ (discardWrite s).downResp = s.downResp ∧ (discardWrite s).mon = s.mon ∧
    (discardWrite s).gov = s.gov ∧ (discardWrite s).alm = s.alm ∧ (discardWrite s).cfg.staged = s.cfg.staged ∧
    (discardWrite s).cfg.active = s.cfg.active ∧ (discardWrite s).cfg.streamState = s.cfg.streamState ∧
    (discardWrite s).cfg.regime = s.cfg.regime ∧ (discardWrite s).cfg.reqArgs = s.cfg.reqArgs ∧
    (discardWrite s).link = s.link ∧ (discardWrite s).ports = s.ports ∧ (discardWrite s).pending = s.pending := by
  simp [discardWrite]

/-- A staged write changes the staged copy only. -/
@[simp] theorem putStaged_frame (f : Field Settings) (v : Nat) (s : State) :
    (putStaged f v s).now = s.now ∧ (putStaged f v s).pins = s.pins ∧ (putStaged f v s).stage = s.stage ∧
    (putStaged f v s).tagMap = s.tagMap ∧ (putStaged f v s).localList = s.localList ∧
    (putStaged f v s).offers = s.offers ∧ (putStaged f v s).preferred = s.preferred ∧ (putStaged f v s).pool = s.pool ∧
    (putStaged f v s).acceptCtr = s.acceptCtr ∧ (putStaged f v s).accounts = s.accounts ∧
    (putStaged f v s).refillDue = s.refillDue ∧ (putStaged f v s).arb = s.arb ∧ (putStaged f v s).table = s.table ∧
    (putStaged f v s).downResp = s.downResp ∧ (putStaged f v s).mon = s.mon ∧ (putStaged f v s).gov = s.gov ∧
    (putStaged f v s).alm = s.alm ∧ (putStaged f v s).cfg.active = s.cfg.active ∧
    (putStaged f v s).cfg.streamState = s.cfg.streamState ∧ (putStaged f v s).cfg.regime = s.cfg.regime ∧
    (putStaged f v s).cfg.slot = s.cfg.slot ∧ (putStaged f v s).cfg.reqArgs = s.cfg.reqArgs ∧
    (putStaged f v s).link = s.link ∧ (putStaged f v s).ports = s.ports ∧ (putStaged f v s).pending = s.pending := by
  simp [putStaged]

/-- A mask write changes the masks only. -/
@[simp] theorem writeMask_frame (which : MaskByte) (v : Byte) (s : State) :
    (writeMask which v s).now = s.now ∧ (writeMask which v s).pins = s.pins ∧ (writeMask which v s).stage = s.stage ∧
    (writeMask which v s).tagMap = s.tagMap ∧ (writeMask which v s).localList = s.localList ∧
    (writeMask which v s).offers = s.offers ∧ (writeMask which v s).preferred = s.preferred ∧
    (writeMask which v s).pool = s.pool ∧ (writeMask which v s).acceptCtr = s.acceptCtr ∧
    (writeMask which v s).accounts = s.accounts ∧ (writeMask which v s).refillDue = s.refillDue ∧
    (writeMask which v s).arb = s.arb ∧ (writeMask which v s).table = s.table ∧
    (writeMask which v s).downResp = s.downResp ∧ (writeMask which v s).mon = s.mon ∧ (writeMask which v s).gov = s.gov ∧
    (writeMask which v s).alm.status = s.alm.status ∧ (writeMask which v s).alm.globalStatus = s.alm.globalStatus ∧
    (writeMask which v s).alm.hold = s.alm.hold ∧ (writeMask which v s).cfg = s.cfg ∧
    (writeMask which v s).link = s.link ∧ (writeMask which v s).ports = s.ports ∧
    (writeMask which v s).pending = s.pending := by
  cases which <;> simp [writeMask]

/-- A hold write changes the alert hold only. -/
@[simp] theorem writeHold_frame (v : Byte) (s : State) :
    (writeHold v s).now = s.now ∧ (writeHold v s).pins = s.pins ∧ (writeHold v s).stage = s.stage ∧
    (writeHold v s).tagMap = s.tagMap ∧ (writeHold v s).localList = s.localList ∧ (writeHold v s).offers = s.offers ∧
    (writeHold v s).preferred = s.preferred ∧ (writeHold v s).pool = s.pool ∧ (writeHold v s).acceptCtr = s.acceptCtr ∧
    (writeHold v s).accounts = s.accounts ∧ (writeHold v s).refillDue = s.refillDue ∧ (writeHold v s).arb = s.arb ∧
    (writeHold v s).table = s.table ∧ (writeHold v s).downResp = s.downResp ∧ (writeHold v s).mon = s.mon ∧
    (writeHold v s).gov = s.gov ∧ (writeHold v s).alm.status = s.alm.status ∧
    (writeHold v s).alm.globalStatus = s.alm.globalStatus ∧ (writeHold v s).alm.mask = s.alm.mask ∧
    (writeHold v s).alm.globalMask = s.alm.globalMask ∧ (writeHold v s).cfg = s.cfg ∧ (writeHold v s).link = s.link ∧
    (writeHold v s).ports = s.ports ∧ (writeHold v s).pending = s.pending := by
  simp [writeHold]

/-- An argument write changes the request arguments only. -/
@[simp] theorem writeArg_frame (i : Fin 3) (v : Byte) (s : State) :
    (writeArg i v s).now = s.now ∧ (writeArg i v s).pins = s.pins ∧ (writeArg i v s).stage = s.stage ∧
    (writeArg i v s).tagMap = s.tagMap ∧ (writeArg i v s).localList = s.localList ∧ (writeArg i v s).offers = s.offers ∧
    (writeArg i v s).preferred = s.preferred ∧ (writeArg i v s).pool = s.pool ∧ (writeArg i v s).acceptCtr = s.acceptCtr ∧
    (writeArg i v s).accounts = s.accounts ∧ (writeArg i v s).refillDue = s.refillDue ∧ (writeArg i v s).arb = s.arb ∧
    (writeArg i v s).table = s.table ∧ (writeArg i v s).downResp = s.downResp ∧ (writeArg i v s).mon = s.mon ∧
    (writeArg i v s).gov = s.gov ∧ (writeArg i v s).alm = s.alm ∧ (writeArg i v s).cfg.staged = s.cfg.staged ∧
    (writeArg i v s).cfg.active = s.cfg.active ∧ (writeArg i v s).cfg.streamState = s.cfg.streamState ∧
    (writeArg i v s).cfg.regime = s.cfg.regime ∧ (writeArg i v s).cfg.slot = s.cfg.slot ∧ (writeArg i v s).link = s.link ∧
    (writeArg i v s).ports = s.ports ∧ (writeArg i v s).pending = s.pending := by
  simp [writeArg]

/-- A latched byte changes the write latch only. -/
@[simp] theorem setWriteLatch_frame (l : Option WriteLatch) (s : State) :
    (setWriteLatch l s).now = s.now ∧ (setWriteLatch l s).pins = s.pins ∧ (setWriteLatch l s).stage = s.stage ∧
    (setWriteLatch l s).tagMap = s.tagMap ∧ (setWriteLatch l s).localList = s.localList ∧
    (setWriteLatch l s).offers = s.offers ∧ (setWriteLatch l s).preferred = s.preferred ∧
    (setWriteLatch l s).pool = s.pool ∧ (setWriteLatch l s).acceptCtr = s.acceptCtr ∧
    (setWriteLatch l s).accounts = s.accounts ∧ (setWriteLatch l s).refillDue = s.refillDue ∧
    (setWriteLatch l s).arb = s.arb ∧ (setWriteLatch l s).table = s.table ∧ (setWriteLatch l s).downResp = s.downResp ∧
    (setWriteLatch l s).mon = s.mon ∧ (setWriteLatch l s).gov = s.gov ∧ (setWriteLatch l s).alm = s.alm ∧
    (setWriteLatch l s).cfg = s.cfg ∧ (setWriteLatch l s).link.page = s.link.page ∧
    (setWriteLatch l s).link.offset = s.link.offset ∧ (setWriteLatch l s).link.state = s.link.state ∧
    (setWriteLatch l s).link.readEnded = s.link.readEnded ∧ (setWriteLatch l s).link.readLatch = s.link.readLatch ∧
    (setWriteLatch l s).link.straps = s.link.straps ∧ (setWriteLatch l s).ports = s.ports ∧
    (setWriteLatch l s).pending = s.pending := by
  simp [setWriteLatch]

/-- An acknowledge changes one output only. -/
@[simp] theorem setAck_frame (ack : Bool) (s : State) :
    (setAck ack s).now = s.now ∧ (setAck ack s).pins = s.pins ∧ (setAck ack s).stage = s.stage ∧
    (setAck ack s).tagMap = s.tagMap ∧ (setAck ack s).localList = s.localList ∧ (setAck ack s).offers = s.offers ∧
    (setAck ack s).preferred = s.preferred ∧ (setAck ack s).pool = s.pool ∧ (setAck ack s).acceptCtr = s.acceptCtr ∧
    (setAck ack s).accounts = s.accounts ∧ (setAck ack s).refillDue = s.refillDue ∧ (setAck ack s).arb = s.arb ∧
    (setAck ack s).table = s.table ∧ (setAck ack s).downResp = s.downResp ∧ (setAck ack s).mon = s.mon ∧
    (setAck ack s).gov = s.gov ∧ (setAck ack s).alm = s.alm ∧ (setAck ack s).cfg = s.cfg ∧ (setAck ack s).link = s.link ∧
    (setAck ack s).ports.downSent = s.ports.downSent ∧ (setAck ack s).ports.upSent = s.ports.upSent ∧
    (setAck ack s).ports.linkSent = s.ports.linkSent ∧ (setAck ack s).pending = s.pending := by
  simp [setAck]

/-- The pointer and the transfer state move; nothing else changes. -/
@[simp] theorem setPointer_frame (page : Byte) (off : Nat) (st : TransferState) (s : State) :
    (setPointer page off st s).now = s.now ∧ (setPointer page off st s).pins = s.pins ∧
    (setPointer page off st s).stage = s.stage ∧ (setPointer page off st s).tagMap = s.tagMap ∧
    (setPointer page off st s).localList = s.localList ∧ (setPointer page off st s).offers = s.offers ∧
    (setPointer page off st s).preferred = s.preferred ∧ (setPointer page off st s).pool = s.pool ∧
    (setPointer page off st s).acceptCtr = s.acceptCtr ∧ (setPointer page off st s).accounts = s.accounts ∧
    (setPointer page off st s).refillDue = s.refillDue ∧ (setPointer page off st s).arb = s.arb ∧
    (setPointer page off st s).table = s.table ∧ (setPointer page off st s).downResp = s.downResp ∧
    (setPointer page off st s).mon = s.mon ∧ (setPointer page off st s).gov = s.gov ∧
    (setPointer page off st s).alm = s.alm ∧ (setPointer page off st s).cfg = s.cfg ∧
    (setPointer page off st s).link.readEnded = s.link.readEnded ∧
    (setPointer page off st s).link.readLatch = s.link.readLatch ∧
    (setPointer page off st s).link.writeLatch = s.link.writeLatch ∧
    (setPointer page off st s).link.straps = s.link.straps ∧ (setPointer page off st s).ports = s.ports ∧
    (setPointer page off st s).pending = s.pending := by
  simp [setPointer]

/-- The end of a transfer leaves the pointer and all beside the link alone. -/
@[simp] theorem endTransfer_frame (s : State) :
    (endTransfer s).now = s.now ∧ (endTransfer s).pins = s.pins ∧ (endTransfer s).stage = s.stage ∧
    (endTransfer s).tagMap = s.tagMap ∧ (endTransfer s).localList = s.localList ∧ (endTransfer s).offers = s.offers ∧
    (endTransfer s).preferred = s.preferred ∧ (endTransfer s).pool = s.pool ∧ (endTransfer s).acceptCtr = s.acceptCtr ∧
    (endTransfer s).accounts = s.accounts ∧ (endTransfer s).refillDue = s.refillDue ∧ (endTransfer s).arb = s.arb ∧
    (endTransfer s).table = s.table ∧ (endTransfer s).downResp = s.downResp ∧ (endTransfer s).mon = s.mon ∧
    (endTransfer s).gov = s.gov ∧ (endTransfer s).alm = s.alm ∧ (endTransfer s).cfg = s.cfg ∧
    (endTransfer s).link.page = s.link.page ∧ (endTransfer s).link.offset = s.link.offset ∧
    (endTransfer s).link.straps = s.link.straps ∧ (endTransfer s).ports = s.ports ∧
    (endTransfer s).pending = s.pending := by
  simp [endTransfer]

/-- What a byte sent leaves alone. -/
@[simp] theorem sendByte_frame (ack : Bool) (s : State) :
    (sendByte ack s).now = s.now ∧ (sendByte ack s).pins = s.pins ∧ (sendByte ack s).stage = s.stage ∧
    (sendByte ack s).tagMap = s.tagMap ∧ (sendByte ack s).localList = s.localList ∧ (sendByte ack s).offers = s.offers ∧
    (sendByte ack s).preferred = s.preferred ∧ (sendByte ack s).pool = s.pool ∧ (sendByte ack s).acceptCtr = s.acceptCtr ∧
    (sendByte ack s).accounts = s.accounts ∧ (sendByte ack s).refillDue = s.refillDue ∧ (sendByte ack s).arb = s.arb ∧
    (sendByte ack s).table = s.table ∧ (sendByte ack s).downResp = s.downResp ∧ (sendByte ack s).mon = s.mon ∧
    (sendByte ack s).gov = s.gov ∧ (sendByte ack s).alm = s.alm ∧ (sendByte ack s).cfg = s.cfg ∧
    (sendByte ack s).link.page = s.link.page ∧ (sendByte ack s).link.state = s.link.state ∧
    (sendByte ack s).link.writeLatch = s.link.writeLatch ∧ (sendByte ack s).link.straps = s.link.straps ∧
    (sendByte ack s).ports.downSent = s.ports.downSent ∧ (sendByte ack s).ports.upSent = s.ports.upSent ∧
    (sendByte ack s).ports.linkAck = s.ports.linkAck ∧ (sendByte ack s).pending = s.pending := by
  simp [sendByte]

/-- A tick changes the time only. -/
@[simp] theorem tick_frame (s : State) :
    (tick s).pins = s.pins ∧ (tick s).stage = s.stage ∧ (tick s).tagMap = s.tagMap ∧ (tick s).localList = s.localList ∧
    (tick s).offers = s.offers ∧ (tick s).preferred = s.preferred ∧ (tick s).pool = s.pool ∧
    (tick s).acceptCtr = s.acceptCtr ∧ (tick s).accounts = s.accounts ∧ (tick s).refillDue = s.refillDue ∧
    (tick s).arb = s.arb ∧ (tick s).table = s.table ∧ (tick s).downResp = s.downResp ∧ (tick s).mon = s.mon ∧
    (tick s).gov = s.gov ∧ (tick s).alm = s.alm ∧ (tick s).cfg = s.cfg ∧ (tick s).link = s.link ∧
    (tick s).ports = s.ports ∧ (tick s).pending = s.pending := by
  simp [tick]

end Sys2Proof.Machine
end

