-- ==== Sys2Proof/Laws/Ops.lean ====
section
/-! SUPPORT. For each shared operation: what it never changes, and its cases. -/

namespace Sys2Proof.Machine

/-- A repeated placement test leaves alone all but what a placement changes. -/
@[simp] theorem retestSlot_frame (s : State) :
    (retestSlot s).now = s.now ∧ (retestSlot s).pins = s.pins ∧ (retestSlot s).tagMap = s.tagMap ∧
    (retestSlot s).localList = s.localList ∧ (retestSlot s).offers = s.offers ∧ (retestSlot s).preferred = s.preferred ∧
    (retestSlot s).accounts = s.accounts ∧ (retestSlot s).refillDue = s.refillDue ∧ (retestSlot s).arb = s.arb ∧
    (retestSlot s).table = s.table ∧ (retestSlot s).downResp = s.downResp ∧
    (retestSlot s).mon.epochStart = s.mon.epochStart ∧ (retestSlot s).mon.epochEnd = s.mon.epochEnd ∧
    (retestSlot s).mon.epochLen = s.mon.epochLen ∧ (retestSlot s).mon.regulated = s.mon.regulated ∧
    (retestSlot s).mon.adjustDue = s.mon.adjustDue ∧ (retestSlot s).mon.seq = s.mon.seq ∧
    (retestSlot s).mon.span = s.mon.span ∧ (retestSlot s).mon.duplicate = s.mon.duplicate ∧
    (retestSlot s).mon.orphan = s.mon.orphan ∧ (retestSlot s).mon.discard = s.mon.discard ∧
    (retestSlot s).mon.reports = s.mon.reports ∧ (retestSlot s).mon.greport = s.mon.greport ∧
    (retestSlot s).mon.watches = s.mon.watches ∧ (retestSlot s).gov = s.gov ∧ (retestSlot s).alm = s.alm ∧
    (retestSlot s).cfg = s.cfg ∧ (retestSlot s).link = s.link ∧ (retestSlot s).ports = s.ports ∧
    (retestSlot s).pending = s.pending := by
  unfold retestSlot; repeat' split
  all_goals simp

/-- What the PASS path leaves alone. -/
@[simp] theorem passPath_frame (req : Request) (registered : Bool) (s : State) :
    (passPath req registered s).now = s.now ∧ (passPath req registered s).pins = s.pins ∧
    (passPath req registered s).tagMap = s.tagMap ∧ (passPath req registered s).localList = s.localList ∧
    (passPath req registered s).offers = s.offers ∧ (passPath req registered s).preferred = s.preferred ∧
    (passPath req registered s).pool = s.pool ∧ (passPath req registered s).acceptCtr = s.acceptCtr ∧
    (passPath req registered s).accounts = s.accounts ∧ (passPath req registered s).refillDue = s.refillDue ∧
    (passPath req registered s).arb = s.arb ∧ (passPath req registered s).downResp = s.downResp ∧
    (passPath req registered s).mon.epochStart = s.mon.epochStart ∧
    (passPath req registered s).mon.epochEnd = s.mon.epochEnd ∧
    (passPath req registered s).mon.epochLen = s.mon.epochLen ∧
    (passPath req registered s).mon.regulated = s.mon.regulated ∧
    (passPath req registered s).mon.adjustDue = s.mon.adjustDue ∧ (passPath req registered s).mon.seq = s.mon.seq ∧
    (passPath req registered s).mon.span = s.mon.span ∧ (passPath req registered s).mon.duplicate = s.mon.duplicate ∧
    (passPath req registered s).mon.orphan = s.mon.orphan ∧ (passPath req registered s).mon.discard = s.mon.discard ∧
    (passPath req registered s).mon.reports = s.mon.reports ∧ (passPath req registered s).mon.greport = s.mon.greport ∧
    (passPath req registered s).mon.watches = s.mon.watches ∧ (passPath req registered s).gov = s.gov ∧
    (passPath req registered s).alm = s.alm ∧ (passPath req registered s).cfg = s.cfg ∧
    (passPath req registered s).link = s.link ∧ (passPath req registered s).ports.upSent = s.ports.upSent ∧
    (passPath req registered s).ports.linkSent = s.ports.linkSent ∧
    (passPath req registered s).ports.linkAck = s.ports.linkAck ∧ (passPath req registered s).pending = s.pending := by
  unfold passPath; split <;> simp

/-- What the end of DRAINING leaves alone. -/
@[simp] theorem checkPoolEmpty_frame (s : State) :
    (checkPoolEmpty s).now = s.now ∧ (checkPoolEmpty s).pins = s.pins ∧ (checkPoolEmpty s).tagMap = s.tagMap ∧
    (checkPoolEmpty s).localList = s.localList ∧ (checkPoolEmpty s).offers = s.offers ∧
    (checkPoolEmpty s).preferred = s.preferred ∧ (checkPoolEmpty s).pool = s.pool ∧
    (checkPoolEmpty s).acceptCtr = s.acceptCtr ∧ (checkPoolEmpty s).accounts = s.accounts ∧
    (checkPoolEmpty s).refillDue = s.refillDue ∧ (checkPoolEmpty s).arb = s.arb ∧
    (checkPoolEmpty s).downResp = s.downResp ∧ (checkPoolEmpty s).mon.epochStart = s.mon.epochStart ∧
    (checkPoolEmpty s).mon.epochEnd = s.mon.epochEnd ∧ (checkPoolEmpty s).mon.epochLen = s.mon.epochLen ∧
    (checkPoolEmpty s).mon.regulated = s.mon.regulated ∧ (checkPoolEmpty s).mon.adjustDue = s.mon.adjustDue ∧
    (checkPoolEmpty s).mon.seq = s.mon.seq ∧ (checkPoolEmpty s).mon.span = s.mon.span ∧
    (checkPoolEmpty s).mon.duplicate = s.mon.duplicate ∧ (checkPoolEmpty s).mon.orphan = s.mon.orphan ∧
    (checkPoolEmpty s).mon.discard = s.mon.discard ∧ (checkPoolEmpty s).mon.reports = s.mon.reports ∧
    (checkPoolEmpty s).mon.greport = s.mon.greport ∧ (checkPoolEmpty s).mon.watches = s.mon.watches ∧
    (checkPoolEmpty s).gov = s.gov ∧ (checkPoolEmpty s).alm = s.alm ∧ (checkPoolEmpty s).cfg.staged = s.cfg.staged ∧
    (checkPoolEmpty s).cfg.active = s.cfg.active ∧ (checkPoolEmpty s).cfg.streamState = s.cfg.streamState ∧
    (checkPoolEmpty s).cfg.slot = s.cfg.slot ∧ (checkPoolEmpty s).cfg.reqArgs = s.cfg.reqArgs ∧
    (checkPoolEmpty s).link = s.link ∧ (checkPoolEmpty s).ports.upSent = s.ports.upSent ∧
    (checkPoolEmpty s).ports.linkSent = s.ports.linkSent ∧ (checkPoolEmpty s).ports.linkAck = s.ports.linkAck ∧
    (checkPoolEmpty s).pending = s.pending := by
  unfold checkPoolEmpty; repeat' split
  all_goals simp

/-- What a drain report leaves alone. -/
@[simp] theorem checkDrained_frame (s : State) :
    (checkDrained s).now = s.now ∧ (checkDrained s).pins = s.pins ∧ (checkDrained s).stage = s.stage ∧
    (checkDrained s).tagMap = s.tagMap ∧ (checkDrained s).localList = s.localList ∧ (checkDrained s).offers = s.offers ∧
    (checkDrained s).preferred = s.preferred ∧ (checkDrained s).pool = s.pool ∧ (checkDrained s).acceptCtr = s.acceptCtr ∧
    (checkDrained s).accounts = s.accounts ∧ (checkDrained s).refillDue = s.refillDue ∧ (checkDrained s).arb = s.arb ∧
    (checkDrained s).table = s.table ∧ (checkDrained s).downResp = s.downResp ∧ (checkDrained s).mon = s.mon ∧
    (checkDrained s).gov = s.gov ∧ (checkDrained s).alm.status = s.alm.status ∧ (checkDrained s).alm.mask = s.alm.mask ∧
    (checkDrained s).alm.globalMask = s.alm.globalMask ∧ (checkDrained s).alm.hold = s.alm.hold ∧
    (checkDrained s).cfg.regime = s.cfg.regime ∧ (checkDrained s).cfg.reqArgs = s.cfg.reqArgs ∧
    (checkDrained s).link = s.link ∧ (checkDrained s).ports = s.ports ∧ (checkDrained s).pending = s.pending := by
  unfold checkDrained; repeat' split
  all_goals simp

/-- What the acceptance of a LOST offer leaves alone. -/
@[simp] theorem acceptLost_frame (n : EntryId) (s : State) :
    (acceptLost n s).now = s.now ∧ (acceptLost n s).pins = s.pins ∧ (acceptLost n s).stage = s.stage ∧
    (acceptLost n s).tagMap = s.tagMap ∧ (acceptLost n s).localList = s.localList ∧ (acceptLost n s).offers = s.offers ∧
    (acceptLost n s).preferred = s.preferred ∧ (acceptLost n s).pool = s.pool ∧ (acceptLost n s).acceptCtr = s.acceptCtr ∧
    (acceptLost n s).accounts = s.accounts ∧ (acceptLost n s).refillDue = s.refillDue ∧ (acceptLost n s).arb = s.arb ∧
    (acceptLost n s).downResp = s.downResp ∧ (acceptLost n s).mon.epochStart = s.mon.epochStart ∧
    (acceptLost n s).mon.epochEnd = s.mon.epochEnd ∧ (acceptLost n s).mon.epochLen = s.mon.epochLen ∧
    (acceptLost n s).mon.regulated = s.mon.regulated ∧ (acceptLost n s).mon.adjustDue = s.mon.adjustDue ∧
    (acceptLost n s).mon.seq = s.mon.seq ∧ (acceptLost n s).mon.span = s.mon.span ∧
    (acceptLost n s).mon.duplicate = s.mon.duplicate ∧ (acceptLost n s).mon.orphan = s.mon.orphan ∧
    (acceptLost n s).mon.discard = s.mon.discard ∧ (acceptLost n s).mon.reports = s.mon.reports ∧
    (acceptLost n s).mon.greport = s.mon.greport ∧ (acceptLost n s).mon.watches = s.mon.watches ∧
    (acceptLost n s).gov = s.gov ∧ (acceptLost n s).alm.status = s.alm.status ∧ (acceptLost n s).alm.mask = s.alm.mask ∧
    (acceptLost n s).alm.globalMask = s.alm.globalMask ∧ (acceptLost n s).alm.hold = s.alm.hold ∧
    (acceptLost n s).cfg.regime = s.cfg.regime ∧ (acceptLost n s).cfg.reqArgs = s.cfg.reqArgs ∧
    (acceptLost n s).link = s.link ∧ (acceptLost n s).ports = s.ports ∧ (acceptLost n s).pending = s.pending := by
  unfold acceptLost; split <;> simp

/-- What the acceptance of a STALE offer leaves alone. -/
@[simp] theorem acceptStale_frame (p : TagPair) (s : State) :
    (acceptStale p s).now = s.now ∧ (acceptStale p s).pins = s.pins ∧ (acceptStale p s).tagMap = s.tagMap ∧
    (acceptStale p s).localList = s.localList ∧ (acceptStale p s).offers = s.offers ∧
    (acceptStale p s).preferred = s.preferred ∧ (acceptStale p s).accounts = s.accounts ∧
    (acceptStale p s).refillDue = s.refillDue ∧ (acceptStale p s).arb = s.arb ∧ (acceptStale p s).downResp = s.downResp ∧
    (acceptStale p s).mon.epochStart = s.mon.epochStart ∧ (acceptStale p s).mon.epochEnd = s.mon.epochEnd ∧
    (acceptStale p s).mon.epochLen = s.mon.epochLen ∧ (acceptStale p s).mon.regulated = s.mon.regulated ∧
    (acceptStale p s).mon.adjustDue = s.mon.adjustDue ∧ (acceptStale p s).mon.seq = s.mon.seq ∧
    (acceptStale p s).mon.span = s.mon.span ∧ (acceptStale p s).mon.duplicate = s.mon.duplicate ∧
    (acceptStale p s).mon.orphan = s.mon.orphan ∧ (acceptStale p s).mon.discard = s.mon.discard ∧
    (acceptStale p s).mon.reports = s.mon.reports ∧ (acceptStale p s).mon.greport = s.mon.greport ∧
    (acceptStale p s).mon.watches = s.mon.watches ∧ (acceptStale p s).gov = s.gov ∧
    (acceptStale p s).alm.status = s.alm.status ∧ (acceptStale p s).alm.mask = s.alm.mask ∧
    (acceptStale p s).alm.globalMask = s.alm.globalMask ∧ (acceptStale p s).alm.hold = s.alm.hold ∧
    (acceptStale p s).cfg.reqArgs = s.cfg.reqArgs ∧ (acceptStale p s).link = s.link ∧
    (acceptStale p s).ports.upSent = s.ports.upSent ∧ (acceptStale p s).ports.linkSent = s.ports.linkSent ∧
    (acceptStale p s).ports.linkAck = s.ports.linkAck ∧ (acceptStale p s).pending = s.pending := by
  simp [acceptStale]

/-- What the acceptance of an offer leaves alone. -/
@[simp] theorem acceptOffer_frame (o : Offer) (s : State) :
    (acceptOffer o s).now = s.now ∧ (acceptOffer o s).pins = s.pins ∧ (acceptOffer o s).tagMap = s.tagMap ∧
    (acceptOffer o s).offers = s.offers ∧ (acceptOffer o s).preferred = s.preferred ∧
    (acceptOffer o s).accounts = s.accounts ∧ (acceptOffer o s).refillDue = s.refillDue ∧ (acceptOffer o s).arb = s.arb ∧
    (acceptOffer o s).downResp = s.downResp ∧ (acceptOffer o s).mon.epochStart = s.mon.epochStart ∧
    (acceptOffer o s).mon.epochEnd = s.mon.epochEnd ∧ (acceptOffer o s).mon.epochLen = s.mon.epochLen ∧
    (acceptOffer o s).mon.regulated = s.mon.regulated ∧ (acceptOffer o s).mon.adjustDue = s.mon.adjustDue ∧
    (acceptOffer o s).mon.seq = s.mon.seq ∧ (acceptOffer o s).mon.span = s.mon.span ∧
    (acceptOffer o s).mon.duplicate = s.mon.duplicate ∧ (acceptOffer o s).mon.orphan = s.mon.orphan ∧
    (acceptOffer o s).mon.discard = s.mon.discard ∧ (acceptOffer o s).mon.reports = s.mon.reports ∧
    (acceptOffer o s).mon.greport = s.mon.greport ∧ (acceptOffer o s).mon.watches = s.mon.watches ∧
    (acceptOffer o s).gov = s.gov ∧ (acceptOffer o s).alm.status = s.alm.status ∧
    (acceptOffer o s).alm.mask = s.alm.mask ∧ (acceptOffer o s).alm.globalMask = s.alm.globalMask ∧
    (acceptOffer o s).alm.hold = s.alm.hold ∧ (acceptOffer o s).cfg.reqArgs = s.cfg.reqArgs ∧
    (acceptOffer o s).link = s.link ∧ (acceptOffer o s).ports.upSent = s.ports.upSent ∧
    (acceptOffer o s).ports.linkSent = s.ports.linkSent ∧ (acceptOffer o s).ports.linkAck = s.ports.linkAck ∧
    (acceptOffer o s).pending = s.pending := by
  unfold acceptOffer; dsimp only; split <;> simp

/-- What an offer leaves alone. -/
@[simp] theorem makeOffer_frame (o : Offer) (s : State) :
    (makeOffer o s).now = s.now ∧ (makeOffer o s).pins = s.pins ∧ (makeOffer o s).tagMap = s.tagMap ∧
    (makeOffer o s).preferred = s.preferred ∧ (makeOffer o s).accounts = s.accounts ∧
    (makeOffer o s).refillDue = s.refillDue ∧ (makeOffer o s).arb = s.arb ∧ (makeOffer o s).downResp = s.downResp ∧
    (makeOffer o s).mon.epochStart = s.mon.epochStart ∧ (makeOffer o s).mon.epochEnd = s.mon.epochEnd ∧
    (makeOffer o s).mon.epochLen = s.mon.epochLen ∧ (makeOffer o s).mon.regulated = s.mon.regulated ∧
    (makeOffer o s).mon.adjustDue = s.mon.adjustDue ∧ (makeOffer o s).mon.seq = s.mon.seq ∧
    (makeOffer o s).mon.span = s.mon.span ∧ (makeOffer o s).mon.duplicate = s.mon.duplicate ∧
    (makeOffer o s).mon.orphan = s.mon.orphan ∧ (makeOffer o s).mon.discard = s.mon.discard ∧
    (makeOffer o s).mon.reports = s.mon.reports ∧ (makeOffer o s).mon.greport = s.mon.greport ∧
    (makeOffer o s).mon.watches = s.mon.watches ∧ (makeOffer o s).gov = s.gov ∧
    (makeOffer o s).alm.status = s.alm.status ∧ (makeOffer o s).alm.mask = s.alm.mask ∧
    (makeOffer o s).alm.globalMask = s.alm.globalMask ∧ (makeOffer o s).alm.hold = s.alm.hold ∧
    (makeOffer o s).cfg.reqArgs = s.cfg.reqArgs ∧ (makeOffer o s).link = s.link ∧
    (makeOffer o s).ports.upSent = s.ports.upSent ∧ (makeOffer o s).ports.linkSent = s.ports.linkSent ∧
    (makeOffer o s).ports.linkAck = s.ports.linkAck ∧ (makeOffer o s).pending = s.pending := by
  unfold makeOffer; split <;> simp

/-- What a freed place leaves alone. -/
@[simp] theorem acceptOldest_frame (s : State) :
    (acceptOldest s).now = s.now ∧ (acceptOldest s).pins = s.pins ∧ (acceptOldest s).tagMap = s.tagMap ∧
    (acceptOldest s).preferred = s.preferred ∧ (acceptOldest s).accounts = s.accounts ∧
    (acceptOldest s).refillDue = s.refillDue ∧ (acceptOldest s).arb = s.arb ∧ (acceptOldest s).downResp = s.downResp ∧
    (acceptOldest s).mon.epochStart = s.mon.epochStart ∧ (acceptOldest s).mon.epochEnd = s.mon.epochEnd ∧
    (acceptOldest s).mon.epochLen = s.mon.epochLen ∧ (acceptOldest s).mon.regulated = s.mon.regulated ∧
    (acceptOldest s).mon.adjustDue = s.mon.adjustDue ∧ (acceptOldest s).mon.seq = s.mon.seq ∧
    (acceptOldest s).mon.span = s.mon.span ∧ (acceptOldest s).mon.duplicate = s.mon.duplicate ∧
    (acceptOldest s).mon.orphan = s.mon.orphan ∧ (acceptOldest s).mon.discard = s.mon.discard ∧
    (acceptOldest s).mon.reports = s.mon.reports ∧ (acceptOldest s).mon.greport = s.mon.greport ∧
    (acceptOldest s).mon.watches = s.mon.watches ∧ (acceptOldest s).gov = s.gov ∧
    (acceptOldest s).alm.status = s.alm.status ∧ (acceptOldest s).alm.mask = s.alm.mask ∧
    (acceptOldest s).alm.globalMask = s.alm.globalMask ∧ (acceptOldest s).alm.hold = s.alm.hold ∧
    (acceptOldest s).cfg.reqArgs = s.cfg.reqArgs ∧ (acceptOldest s).link = s.link ∧
    (acceptOldest s).ports.upSent = s.ports.upSent ∧ (acceptOldest s).ports.linkSent = s.ports.linkSent ∧
    (acceptOldest s).ports.linkAck = s.ports.linkAck ∧ (acceptOldest s).pending = s.pending := by
  unfold acceptOldest; repeat' split
  all_goals simp

/-- What a refusal leaves alone. -/
@[simp] theorem refuse_frame (req : Request) (registered : Bool) (r : Reason) (k : Option StreamId) (s : State) :
    (refuse req registered r k s).now = s.now ∧ (refuse req registered r k s).pins = s.pins ∧
    (refuse req registered r k s).tagMap = s.tagMap ∧ (refuse req registered r k s).preferred = s.preferred ∧
    (refuse req registered r k s).accounts = s.accounts ∧ (refuse req registered r k s).refillDue = s.refillDue ∧
    (refuse req registered r k s).arb = s.arb ∧ (refuse req registered r k s).downResp = s.downResp ∧
    (refuse req registered r k s).mon.epochStart = s.mon.epochStart ∧
    (refuse req registered r k s).mon.epochEnd = s.mon.epochEnd ∧
    (refuse req registered r k s).mon.epochLen = s.mon.epochLen ∧
    (refuse req registered r k s).mon.regulated = s.mon.regulated ∧
    (refuse req registered r k s).mon.adjustDue = s.mon.adjustDue ∧ (refuse req registered r k s).mon.seq = s.mon.seq ∧
    (refuse req registered r k s).mon.orphan = s.mon.orphan ∧ (refuse req registered r k s).mon.discard = s.mon.discard ∧
    (refuse req registered r k s).mon.reports = s.mon.reports ∧
    (refuse req registered r k s).mon.greport = s.mon.greport ∧
    (refuse req registered r k s).mon.watches = s.mon.watches ∧ (refuse req registered r k s).gov = s.gov ∧
    (refuse req registered r k s).alm.mask = s.alm.mask ∧
    (refuse req registered r k s).alm.globalMask = s.alm.globalMask ∧
    (refuse req registered r k s).alm.hold = s.alm.hold ∧ (refuse req registered r k s).cfg.reqArgs = s.cfg.reqArgs ∧
    (refuse req registered r k s).link = s.link ∧ (refuse req registered r k s).ports.upSent = s.ports.upSent ∧
    (refuse req registered r k s).ports.linkSent = s.ports.linkSent ∧
    (refuse req registered r k s).ports.linkAck = s.ports.linkAck ∧
    (refuse req registered r k s).pending = s.pending := by
  simp [refuse]

/-- What the checks of REGULATE leave alone. -/
@[simp] theorem regulatedChecks_frame (req : Request) (registered : Bool) (s : State) :
    (regulatedChecks req registered s).now = s.now ∧ (regulatedChecks req registered s).pins = s.pins ∧
    (regulatedChecks req registered s).tagMap = s.tagMap ∧ (regulatedChecks req registered s).preferred = s.preferred ∧
    (regulatedChecks req registered s).accounts = s.accounts ∧
    (regulatedChecks req registered s).refillDue = s.refillDue ∧ (regulatedChecks req registered s).arb = s.arb ∧
    (regulatedChecks req registered s).downResp = s.downResp ∧
    (regulatedChecks req registered s).mon.epochStart = s.mon.epochStart ∧
    (regulatedChecks req registered s).mon.epochEnd = s.mon.epochEnd ∧
    (regulatedChecks req registered s).mon.epochLen = s.mon.epochLen ∧
    (regulatedChecks req registered s).mon.regulated = s.mon.regulated ∧
    (regulatedChecks req registered s).mon.adjustDue = s.mon.adjustDue ∧
    (regulatedChecks req registered s).mon.seq = s.mon.seq ∧
    (regulatedChecks req registered s).mon.orphan = s.mon.orphan ∧
    (regulatedChecks req registered s).mon.discard = s.mon.discard ∧
    (regulatedChecks req registered s).mon.reports = s.mon.reports ∧
    (regulatedChecks req registered s).mon.greport = s.mon.greport ∧
    (regulatedChecks req registered s).mon.watches = s.mon.watches ∧ (regulatedChecks req registered s).gov = s.gov ∧
    (regulatedChecks req registered s).alm.mask = s.alm.mask ∧
    (regulatedChecks req registered s).alm.globalMask = s.alm.globalMask ∧
    (regulatedChecks req registered s).alm.hold = s.alm.hold ∧
    (regulatedChecks req registered s).cfg.reqArgs = s.cfg.reqArgs ∧ (regulatedChecks req registered s).link = s.link ∧
    (regulatedChecks req registered s).ports.upSent = s.ports.upSent ∧
    (regulatedChecks req registered s).ports.linkSent = s.ports.linkSent ∧
    (regulatedChecks req registered s).ports.linkAck = s.ports.linkAck ∧
    (regulatedChecks req registered s).pending = s.pending := by
  unfold regulatedChecks; repeat' split
  all_goals simp

/-- What the expiry of a held transaction leaves alone. -/
@[simp] theorem expireHeld_frame (s : State) (h : Held) :
    (expireHeld s h).now = s.now ∧ (expireHeld s h).pins = s.pins ∧ (expireHeld s h).tagMap = s.tagMap ∧
    (expireHeld s h).preferred = s.preferred ∧ (expireHeld s h).accounts = s.accounts ∧
    (expireHeld s h).refillDue = s.refillDue ∧ (expireHeld s h).arb = s.arb ∧ (expireHeld s h).downResp = s.downResp ∧
    (expireHeld s h).mon.epochStart = s.mon.epochStart ∧ (expireHeld s h).mon.epochEnd = s.mon.epochEnd ∧
    (expireHeld s h).mon.epochLen = s.mon.epochLen ∧ (expireHeld s h).mon.regulated = s.mon.regulated ∧
    (expireHeld s h).mon.adjustDue = s.mon.adjustDue ∧ (expireHeld s h).mon.seq = s.mon.seq ∧
    (expireHeld s h).mon.orphan = s.mon.orphan ∧ (expireHeld s h).mon.discard = s.mon.discard ∧
    (expireHeld s h).mon.reports = s.mon.reports ∧ (expireHeld s h).mon.greport = s.mon.greport ∧
    (expireHeld s h).mon.watches = s.mon.watches ∧ (expireHeld s h).gov = s.gov ∧ (expireHeld s h).alm.mask = s.alm.mask ∧
    (expireHeld s h).alm.globalMask = s.alm.globalMask ∧ (expireHeld s h).alm.hold = s.alm.hold ∧
    (expireHeld s h).cfg.reqArgs = s.cfg.reqArgs ∧ (expireHeld s h).link = s.link ∧
    (expireHeld s h).ports.upSent = s.ports.upSent ∧ (expireHeld s h).ports.linkSent = s.ports.linkSent ∧
    (expireHeld s h).ports.linkAck = s.ports.linkAck ∧ (expireHeld s h).pending = s.pending := by
  simp [expireHeld]

/-- What the expiry of a response timer leaves alone. -/
@[simp] theorem expireEntry_frame (s : State) (n : EntryId) :
    (expireEntry s n).now = s.now ∧ (expireEntry s n).pins = s.pins ∧ (expireEntry s n).tagMap = s.tagMap ∧
    (expireEntry s n).preferred = s.preferred ∧ (expireEntry s n).accounts = s.accounts ∧
    (expireEntry s n).refillDue = s.refillDue ∧ (expireEntry s n).arb = s.arb ∧ (expireEntry s n).downResp = s.downResp ∧
    (expireEntry s n).mon.epochStart = s.mon.epochStart ∧ (expireEntry s n).mon.epochEnd = s.mon.epochEnd ∧
    (expireEntry s n).mon.epochLen = s.mon.epochLen ∧ (expireEntry s n).mon.regulated = s.mon.regulated ∧
    (expireEntry s n).mon.adjustDue = s.mon.adjustDue ∧ (expireEntry s n).mon.seq = s.mon.seq ∧
    (expireEntry s n).mon.span = s.mon.span ∧ (expireEntry s n).mon.duplicate = s.mon.duplicate ∧
    (expireEntry s n).mon.orphan = s.mon.orphan ∧ (expireEntry s n).mon.discard = s.mon.discard ∧
    (expireEntry s n).mon.reports = s.mon.reports ∧ (expireEntry s n).mon.greport = s.mon.greport ∧
    (expireEntry s n).mon.watches = s.mon.watches ∧ (expireEntry s n).gov = s.gov ∧
    (expireEntry s n).alm.status = s.alm.status ∧ (expireEntry s n).alm.mask = s.alm.mask ∧
    (expireEntry s n).alm.globalMask = s.alm.globalMask ∧ (expireEntry s n).alm.hold = s.alm.hold ∧
    (expireEntry s n).cfg.reqArgs = s.cfg.reqArgs ∧ (expireEntry s n).link = s.link ∧
    (expireEntry s n).ports.upSent = s.ports.upSent ∧ (expireEntry s n).ports.linkSent = s.ports.linkSent ∧
    (expireEntry s n).ports.linkAck = s.ports.linkAck ∧ (expireEntry s n).pending = s.pending := by
  unfold expireEntry; split <;> simp

/-! ### The cases of each operation -/

/-- An offer is accepted at once when a place is free (R21). -/
theorem makeOffer_accepted {o : Offer} {s : State} (h : s.localList.length < Config.listPlaces) :
    makeOffer o s = acceptOffer o s := by simp [makeOffer, h]

/-- An offer waits at the tail of the order when no place is free (R21). -/
theorem makeOffer_waits {o : Offer} {s : State} (h : ¬ s.localList.length < Config.listPlaces) :
    makeOffer o s = { s with offers := s.offers ++ [o] } := by simp [makeOffer, h]

/-- The acceptance of the entry stage's offer (R22). -/
theorem acceptOffer_stage (e : LocalEntry) (s : State) :
    acceptOffer { offerer := .stage, entry := e } s = { s with localList := s.localList ++ [e], stage := .empty } := rfl

/-- The acceptance of a STALE offer (R22). -/
theorem acceptOffer_held (p : TagPair) (e : LocalEntry) (s : State) :
    acceptOffer { offerer := .held p, entry := e } s = acceptStale p { s with localList := s.localList ++ [e] } := rfl

/-- The acceptance of a LOST offer (R22). -/
theorem acceptOffer_inflight (n : EntryId) (e : LocalEntry) (s : State) :
    acceptOffer { offerer := .inflight n, entry := e } s = acceptLost n { s with localList := s.localList ++ [e] } := rfl

/-- No waiting offer: a freed place stays free (R21). -/
theorem acceptOldest_none {s : State} (h : s.offers = []) : acceptOldest s = s := by simp [acceptOldest, h]

/-- The oldest waiting offer takes a free place (R21). -/
theorem acceptOldest_some {o : Offer} {rest : List Offer} {s : State} (h : s.offers = o :: rest)
    (hp : s.localList.length < Config.listPlaces) : acceptOldest s = acceptOffer o { s with offers := rest } := by
  simp [acceptOldest, h, hp]

/-- The waiting request is placed, or nothing happens (R12). -/
theorem retestSlot_cases (s : State) :
    retestSlot s = s ∨ ∃ req reg k start, s.stage = .waitSlot req reg k start ∧ s.placementOk k = true ∧
      retestSlot s = place req k s := by
  unfold retestSlot
  split
  · split
    · rename_i req reg k start h hp
      exact .inr ⟨req, reg, k, start, h, hp, rfl⟩
    · exact .inl rfl
  all_goals exact .inl rfl

/-- The PASS path issues to the lowest FREE entry or waits (R15). -/
theorem passPath_cases (req : Request) (reg : Bool) (s : State) :
    (∃ n, s.portOpen = true ∧ s.firstFree = some n ∧ passPath req reg s = sendDown n req none { s with stage := .empty }) ∨
      passPath req reg s = { s with stage := .waitIssue req reg } := by
  unfold passPath
  split
  · rename_i n hp hf
    exact .inl ⟨n, hp, hf, rfl⟩
  · exact .inr rfl

/-- Outside the empty pool of DRAINING nothing happens; there the regime becomes PASS and a request in WAIT_DRAIN goes on (R82). -/
theorem checkPoolEmpty_cases (s : State) :
    checkPoolEmpty s = s ∨ (s.cfg.regime = .draining ∧ s.pool = [] ∧
      (checkPoolEmpty s = { s with cfg := { s.cfg with regime := .pass } } ∨
        ∃ req reg, s.stage = .waitDrain req reg ∧
          checkPoolEmpty s = passPath req reg { s with cfg := { s.cfg with regime := .pass } })) := by
  unfold checkPoolEmpty
  split
  · rename_i h
    refine .inr ⟨h.1, h.2, ?_⟩
    dsimp only
    split
    · rename_i req reg hs
      exact .inr ⟨req, reg, hs, rfl⟩
    all_goals exact .inl rfl
  · exact .inl rfl

/-- The retirement completes, or nothing happens (R84, R191). -/
theorem checkDrained_cases (s : State) :
    checkDrained s = s ∨ ∃ k, s.retiringStream = some k ∧ s.drained k = true ∧ checkDrained s = completeRetirement k s := by
  unfold checkDrained
  split
  · split
    · rename_i k hk hd
      exact .inr ⟨k, hk, hd, rfl⟩
    · exact .inl rfl
  · exact .inl rfl

/-- The entry of a LOST offer becomes QUARANTINED or FREE, and LOST is counted and raised; any other entry stays (R107, R111). -/
theorem acceptLost_cases (n : EntryId) (s : State) :
    acceptLost n s = s ∨ ∃ t e, s.table[n] = .expiring t e ∧
      acceptLost n s = checkDrained (raiseGlobal .lost (countTo t.stream Acc.lost
        { s with table := putAt s.table n (match e with
          | .timeout => .quarantined t .timeout
          | .dreset => .free) })) := by
  unfold acceptLost
  split
  · rename_i t h
    exact .inr ⟨t, .timeout, h, rfl⟩
  · rename_i t h
    exact .inr ⟨t, .dreset, h, rfl⟩
  all_goals exact .inl rfl

/-- The five outcomes of the checks of REGULATE (R7, R10, R11). -/
theorem regulatedChecks_cases (req : Request) (reg : Bool) (s : State) :
    let k := (classify s.cfg.active req).1
    regulatedChecks req reg s = refuse req reg .window (some k) s ∨
    regulatedChecks req reg s = refuse req reg .retired (some k) s ∨
    (s.placementOk k = true ∧ regulatedChecks req reg s = place req k s) ∨
    regulatedChecks req reg s = refuse req reg .full (some k) s ∨
    (s.placementOk k = false ∧ regulatedChecks req reg s = raiseGlobal .pool { s with stage := .waitSlot req reg k s.now }) := by
  unfold regulatedChecks
  dsimp only
  split
  · exact .inl rfl
  split
  · exact .inr (.inl rfl)
  split
  · rename_i h
    exact .inr (.inr (.inl ⟨h, rfl⟩))
  split
  · exact .inr (.inr (.inr (.inl rfl)))
  · rename_i h _
    exact .inr (.inr (.inr (.inr ⟨by simpa using h, rfl⟩)))

/-- Nothing happens while RESET# is asserted (R116). -/
theorem event_reset {f : State → State} {s : State} (h : s.pins.reset = true) : event f s = s := by simp [event, h]

/-- An event of a running device. -/
theorem event_running {f : State → State} {s : State} (h : s.pins.reset = false) : event f s = finish s (f s) := by
  simp [event, h]

/-- Management bytes have no effect while RESET# is asserted (R197). -/
theorem whileRunning_reset {f : State → State} {s : State} (h : s.pins.reset = true) : whileRunning f s = s := by
  simp [whileRunning, h]

/-- A management byte of a running device. -/
theorem whileRunning_running {f : State → State} {s : State} (h : s.pins.reset = false) : whileRunning f s = f s := by
  simp [whileRunning, h]

/-! ### The pool -/

/-- The loss of a guard keeps everything but the guard count (R78). -/
@[simp] theorem releaseGuard_keeps (h t : Held) :
    (releaseGuard h t).req = t.req ∧ (releaseGuard h t).stream = t.stream ∧ (releaseGuard h t).state = t.state ∧
      (releaseGuard h t).pair = t.pair ∧ (releaseGuard h t).isWaiting = t.isWaiting ∧
      (releaseGuard h t).acceptNo = t.acceptNo ∧ (releaseGuard h t).placedAt = t.placedAt := by
  unfold releaseGuard
  split <;> simp [Held.pair, Held.isWaiting]

/-- A transaction that leaves its queue stands somewhere in the pool; those before it stay, and those after it may lose a guard
(R78). -/
theorem leaveQueue_split (stay : Held → List Held) (p : TagPair) (pool : List Held) :
    leaveQueue stay p pool = pool ∨ ∃ before h after, pool = before ++ h :: after ∧ h.isWaiting = true ∧ h.pair = p ∧
      leaveQueue stay p pool = before ++ stay h ++ after.map (releaseGuard h) := by
  induction pool with
  | nil => exact .inl rfl
  | cons h rest ih =>
    by_cases hw : (h.isWaiting && h.pair == p) = true
    · refine .inr ⟨[], h, rest, rfl, ?_, ?_, ?_⟩
      · exact (Bool.and_eq_true _ _ ▸ hw).1
      · exact eq_of_beq (Bool.and_eq_true _ _ ▸ hw).2
      · simp only [leaveQueue, hw, if_true, List.nil_append]
    · rcases ih with ih | ⟨before, g, after, rfl, hg, hp, ih⟩
      · left
        simp only [leaveQueue, hw, ih, if_false, Bool.false_eq_true]
      · refine .inr ⟨h :: before, g, after, rfl, hg, hp, ?_⟩
        simp only [leaveQueue, hw, ih, if_false, Bool.false_eq_true, List.cons_append]

/-- The queue head is a WAITING transaction of its stream in the pool (R63). -/
theorem queueHead_mem {s : State} {k : StreamId} {h : Held} (hq : s.queueHead k = some h) :
    h ∈ s.pool ∧ h.stream = k ∧ h.isWaiting = true := by
  have hm := List.mem_of_find?_eq_some hq
  have hp := List.find?_some hq
  simp only [Bool.and_eq_true, beq_iff_eq] at hp
  exact ⟨hm, hp.1, hp.2⟩

/-- The first FREE entry is FREE (R98). -/
theorem firstFree_isFree {s : State} {n : EntryId} (h : s.firstFree = some n) : s.table[n].isFree = true := by
  simpa using List.find?_some h

/-- The stream that a grant goes to is eligible (R94, R95). -/
theorem grant_eligible {s : State} {k : StreamId} {a : Arbiter} (h : s.grant = some (k, a)) : s.eligible k = true := by
  unfold State.grant at h
  split at h
  · rename_i j hj
    have hp := List.find?_some hj
    simp only [Bool.and_eq_true] at hp
    simp only [Option.some.injEq, Prod.mk.injEq] at h
    exact h.1 ▸ hp.2
  · split at h
    · rename_i ht
      simp only [State.turnRunning, Bool.and_eq_true] at ht
      simp only [Option.some.injEq, Prod.mk.injEq] at h
      exact h.1 ▸ ht.1.2
    · cases hn : s.nextWeighted with
      | none => simp [hn] at h
      | some j =>
        have hp := List.find?_some hn
        simp only [Bool.and_eq_true] at hp
        simp only [hn, Option.map_some, Option.some.injEq, Prod.mk.injEq] at h
        exact h.1 ▸ hp.2

end Sys2Proof.Machine
end

