-- ==== Sys2Proof/Laws/Events.lean ====
section
/-! SUPPORT. What the operations of an event do to the configuration, to the counts and to the bytes of a staged write, each
said once. -/

namespace Sys2Proof.Machine

/-! ### The configuration while no RETIRE is PENDING -/

/-- With no RETIRE pending in `s`, the copies, the stream states and the slot of `t` are those of `s`. -/
def SameConfig (s t : State) : Prop :=
  s.pendingCode 0x04 = false → t.cfg.staged = s.cfg.staged ∧ t.cfg.active = s.cfg.active ∧
    t.cfg.streamState = s.cfg.streamState ∧ t.cfg.slot = s.cfg.slot

/-- A step that changes no part of the configuration but the regime. -/
theorem SameConfig.of_eq {s t : State} (h : t.cfg.staged = s.cfg.staged ∧ t.cfg.active = s.cfg.active ∧
    t.cfg.streamState = s.cfg.streamState ∧ t.cfg.slot = s.cfg.slot) : SameConfig s t := fun _ => h

/-- Whether a command is PENDING depends on the slot alone. -/
theorem pendingCode_of_slot {s t : State} (h : t.cfg.slot = s.cfg.slot) (code : Byte) :
    t.pendingCode code = s.pendingCode code := by simp only [State.pendingCode, h]

/-- Two such steps in a row are one. -/
theorem SameConfig.trans {s t u : State} (h : SameConfig s t) (g : SameConfig t u) : SameConfig s u := fun hs => by
  obtain ⟨a, b, c, d⟩ := h hs
  obtain ⟨a', b', c', d'⟩ := g (by rw [pendingCode_of_slot d]; exact hs)
  exact ⟨a'.trans a, b'.trans b, c'.trans c, d'.trans d⟩

/-- A step from a state with the same configuration. -/
theorem SameConfig.after {s t u : State} (g : SameConfig t u) (h : t.cfg = s.cfg) : SameConfig s u :=
  SameConfig.trans (.of_eq (by rw [h]; exact ⟨rfl, rfl, rfl, rfl⟩)) g

/-- A list of such steps is one. -/
theorem SameConfig.foldl {α : Type} {f : State → α → State} (hf : ∀ s a, SameConfig s (f s a)) :
    ∀ (l : List α) (s : State), SameConfig s (l.foldl f s)
  | [], _ => .of_eq ⟨rfl, rfl, rfl, rfl⟩
  | a :: l, s => (hf s a).trans (SameConfig.foldl hf l (f s a))

/-- With no RETIRE pending no retirement completes (R84). -/
theorem checkDrained_idle {s : State} (h : s.pendingCode 0x04 = false) : checkDrained s = s := by
  have hr : s.retiringStream = none := by unfold State.retiringStream; rw [h]; rfl
  unfold checkDrained
  rw [hr]

/-- A drain report changes the configuration only for a pending RETIRE. -/
theorem checkDrained_config (s : State) : SameConfig s (checkDrained s) := fun h => by
  rw [checkDrained_idle h]; exact ⟨rfl, rfl, rfl, rfl⟩

/-- The end of DRAINING changes only the regime. -/
theorem checkPoolEmpty_config (s : State) : SameConfig s (checkPoolEmpty s) := .of_eq (by simp)

/-- A repeated placement test changes no part of the configuration. -/
theorem retestSlot_config (s : State) : SameConfig s (retestSlot s) := .of_eq (by simp)

/-- The acceptance of a STALE offer. -/
theorem acceptStale_config (p : TagPair) (s : State) : SameConfig s (acceptStale p s) :=
  (((retestSlot_config (setPool (dropExpired p s.pool) s)).trans (checkPoolEmpty_config _)).trans (checkDrained_config _)).after
    rfl

/-- The acceptance of a LOST offer. -/
theorem acceptLost_config (n : EntryId) (s : State) : SameConfig s (acceptLost n s) := by
  rcases acceptLost_cases n s with h | ⟨t, e, _, h⟩ <;> rw [h]
  · exact .of_eq ⟨rfl, rfl, rfl, rfl⟩
  · exact (checkDrained_config _).after rfl

/-- The acceptance of an offer. -/
theorem acceptOffer_config (o : Offer) (s : State) : SameConfig s (acceptOffer o s) := by
  obtain ⟨_ | p | n, e⟩ := o
  · exact .of_eq ⟨rfl, rfl, rfl, rfl⟩
  · exact (acceptStale_config p _).after rfl
  · exact (acceptLost_config n _).after rfl

/-- An offer. -/
theorem makeOffer_config (o : Offer) (s : State) : SameConfig s (makeOffer o s) := by
  unfold makeOffer; split
  · exact acceptOffer_config o s
  · exact .of_eq ⟨rfl, rfl, rfl, rfl⟩

/-- The count and the cause of a refusal touch no configuration. -/
theorem countedRefusal_cfg (r : Reason) (k : Option StreamId) (s : State) :
    (raiseRefusal r k (countRefusal r k s)).cfg = s.cfg := by cases r <;> cases k <;> rfl

/-- A refusal of the entry stage. -/
theorem refuse_config (req : Request) (reg : Bool) (r : Reason) (k : Option StreamId) (s : State) :
    SameConfig s (refuse req reg r k s) :=
  (makeOffer_config _ _).after (countedRefusal_cfg r k s)

/-- The expiry of a held transaction. -/
theorem expireHeld_config (s : State) (h : Held) : SameConfig s (expireHeld s h) :=
  (makeOffer_config _ _).after (countedRefusal_cfg .stale (some h.stream) _)

/-- The expiry of a response timer. -/
theorem expireEntry_config (s : State) (n : EntryId) : SameConfig s (expireEntry s n) := by
  unfold expireEntry; split
  · exact (makeOffer_config _ _).after rfl
  all_goals exact .of_eq ⟨rfl, rfl, rfl, rfl⟩

/-- The checks of REGULATE. -/
theorem regulatedChecks_config (req : Request) (reg : Bool) (s : State) : SameConfig s (regulatedChecks req reg s) := by
  unfold regulatedChecks; dsimp only; repeat' split
  all_goals first | exact refuse_config _ _ _ _ _ | exact .of_eq ⟨rfl, rfl, rfl, rfl⟩

/-- The entry stage after a commit (R13, R16, R17). -/
theorem reexamine_config (before : Regime) (s : State) : SameConfig s (reexamine before s) := by
  unfold reexamine; split
  · repeat' split
    all_goals first | exact refuse_config _ _ _ _ _ | exact .of_eq ⟨rfl, rfl, rfl, rfl⟩
  · exact .of_eq ⟨rfl, rfl, rfl, rfl⟩
  · exact .of_eq (by simp)
  · exact regulatedChecks_config _ _ _
  · exact regulatedChecks_config _ _ _
  · exact .of_eq ⟨rfl, rfl, rfl, rfl⟩

/-- The entry stage after a commit moves no time. -/
@[simp] theorem reexamine_now (before : Regime) (s : State) : (reexamine before s).now = s.now := by
  unfold reexamine; split
  · repeat' split
    all_goals simp
  all_goals simp

/-- A list of steps that keep the time keeps it. -/
theorem foldl_now {α : Type} {f : State → α → State} (hf : ∀ s a, (f s a).now = s.now) :
    ∀ (l : List α) (s : State), (l.foldl f s).now = s.now
  | [], _ => rfl
  | a :: l, s => (foldl_now hf l (f s a)).trans (hf s a)

/-! ### The lowest FREE entry and the PASS path (R15, R98) -/

/-- An entry is FREE. -/
theorem isFree_iff (e : Entry) : e.isFree = true ↔ e = .free := by cases e <;> simp [Entry.isFree]

/-- The lowest FREE entry is the one a request takes (R98). -/
theorem firstFree_of_lowest {s : State} {n : EntryId} (h : s.LowestFree n) : s.firstFree = some n := by
  unfold State.firstFree
  rw [List.find?_eq_some_iff_append]
  refine ⟨(isFree_iff _).2 h.1, ?_⟩
  obtain ⟨a, b, hab⟩ := List.append_of_mem (List.mem_finRange n)
  refine ⟨a, b, hab, fun m hm => ?_⟩
  have hs := List.pairwise_lt_finRange 48
  rw [hab] at hs
  have hmn := h.2 m ((List.pairwise_append.1 hs).2.2 m hm n List.mem_cons_self)
  rw [Bool.not_eq_true', ← Bool.not_eq_true, isFree_iff]
  exact hmn

/-- The port takes a request exactly when the device can issue (R15, R92). -/
theorem portOpen_iff (s : State) : s.portOpen = true ↔ s.CanIssue := by
  simp only [State.portOpen, State.CanIssue, Bool.and_eq_true, Bool.not_eq_true']
  constructor
  · rintro ⟨⟨a, b⟩, c⟩; exact ⟨c, b, a⟩
  · rintro ⟨a, b, c⟩; exact ⟨⟨c, b⟩, a⟩

/-- The PASS path issues to the lowest FREE entry when the port is open (R15). -/
theorem passPath_issues {req : Request} {reg : Bool} {s : State} {n : EntryId} (hc : s.CanIssue) (hn : s.LowestFree n) :
    passPath req reg s = sendDown n req none { s with stage := .empty } := by
  unfold passPath; rw [(portOpen_iff s).2 hc, firstFree_of_lowest hn]

/-- Otherwise the request waits in WAIT_ISSUE (R15). -/
theorem passPath_waits {req : Request} {reg : Bool} {s : State} (h : ¬ (s.CanIssue ∧ ∃ n : EntryId, s.table[n] = .free)) :
    passPath req reg s = { s with stage := .waitIssue req reg } := by
  rcases passPath_cases req reg s with ⟨n, hp, hf, _⟩ | hw
  · exact absurd ⟨(portOpen_iff s).1 hp, n, (isFree_iff _).1 (firstFree_isFree hf)⟩ h
  · exact hw

/-! ### The peaks -/

/-- A stream's counts after a change of the pool: its peak takes the occupancies before and after it (R86). -/
theorem setPool_acc (p : List Held) (s : State) (k : StreamId) : (setPool p s).mon.acc[k] =
    if usedIn s.pool k = usedIn p k then s.mon.acc[k] else s.mon.acc[k].offerPeak (usedIn s.pool k) (usedIn p k) := by
  unfold setPool notePeaks; dsimp only; rw [mapAll_get]

/-- The global counts after a change of the pool (R86). -/
theorem setPool_gacc (p : List Held) (s : State) : (setPool p s).mon.gacc =
    if s.pool.length = p.length then s.mon.gacc else s.mon.gacc.offerPeak s.pool.length p.length := rfl

/-! ### The reset drains of URST# (R113, R124) -/

/-- A saturating count raised once for each element of a list: it is untouched by none, and else raised by their number. -/
def raisedBy (count by_ : Nat) : Nat := if by_ = 0 then count else min 4294967295 (count + by_)

/-- One more raise. -/
theorem raisedBy_succ (count n : Nat) : raisedBy (min 4294967295 (count + 1)) n = raisedBy count (n + 1) := by
  simp only [raisedBy]; split <;> simp <;> omega

/-- Reset drains counted one by one: each stream's count and the global count are raised by their numbers, and nothing else
changes (R113, R124). -/
theorem foldl_drain (l : List Flight) : ∀ s : State,
    let t := l.foldl (fun s f => countTo f.stream Acc.drain s) s
    t = { s with mon := { s.mon with acc := t.mon.acc, gacc := t.mon.gacc } } ∧
    (∀ k : StreamId, t.mon.acc[k] = { s.mon.acc[k] with counts := { s.mon.acc[k].counts with
      drain := raisedBy s.mon.acc[k].counts.drain (l.filter fun f => f.stream == some k).length } }) ∧
    t.mon.gacc = { s.mon.gacc with counts := { s.mon.gacc.counts with
      drain := raisedBy s.mon.gacc.counts.drain l.length } } := by
  induction l with
  | nil => intro s; exact ⟨rfl, fun _ => rfl, rfl⟩
  | cons f l ih =>
    intro s
    obtain ⟨h1, h2, h3⟩ := ih (countTo f.stream Acc.drain s)
    dsimp only at h1 h2 h3 ⊢
    rw [List.foldl_cons]
    refine ⟨?_, fun k => ?_, ?_⟩
    · rw [h1]; rfl
    · rw [h2]
      cases hs : f.stream with
      | none => simp [countTo, hs]
      | some j =>
        have hj : (countTo (some j) Acc.drain s).mon.acc[k] = if k = j then Acc.drain s.mon.acc[k] else s.mon.acc[k] := by
          show (modAt s.mon.acc j Acc.drain)[k] = _
          rw [modAt_get]
        rw [hj]
        by_cases hk : k = j
        · subst hk
          simp only [if_true, List.filter_cons, hs, beq_self_eq_true, List.length_cons, Acc.drain, raiseCount, satAdd,
            Config.countTop, raisedBy_succ]
        · have hn : (some j == some k) = false := by simpa using fun h : j = k => hk h.symm
          simp [hk, hs, hn]
    · rw [h3]
      simp only [countTo, Acc.drain, raiseCount, satAdd, Config.countTop, List.length_cons, raisedBy_succ]

/-- The held responses that satisfy a test are the ACTIVE entries with a response whose transaction satisfies it (R113). -/
theorem heldResponses_filter (s : State) (p : Flight → Bool) :
    ((allEntries.filterMap fun n => s.table[n].heldResponse).filter p).length =
      (allEntries.filter fun n => match s.table[n] with
        | .active f (some _) => p f
        | _ => false).length := by
  generalize allEntries = l
  induction l with
  | nil => rfl
  | cons n l ih =>
    simp only [List.filterMap_cons, List.filter_cons]
    cases h : s.table[n] with
    | active f o =>
      cases o with
      | none => simpa [Entry.heldResponse] using ih
      | some x => cases hp : p f <;> simpa [Entry.heldResponse, List.filter_cons, hp] using ih
    | free => simpa [Entry.heldResponse] using ih
    | expiring => simpa [Entry.heldResponse] using ih
    | quarantined => simpa [Entry.heldResponse] using ih

/-! ### The bits of a stream's status (R162) -/

/-- The place of a cause among the six bits of a status. -/
def StreamCause.place : StreamCause → Nat
  | .rateHigh => 0
  | .rateLow => 1
  | .latency => 2
  | .targetMiss => 3
  | .stale => 4
  | .denied => 5

/-- A cause is SET when the bit at its place is. -/
theorem hasCause_eq (v : BitVec 6) (c : StreamCause) : hasCause v c = v.getLsbD c.place := by
  cases c <;> (revert v; decide)

/-- Raising a cause sets it and no other. -/
theorem hasCause_or_bit (v : BitVec 6) (c d : StreamCause) : hasCause (v ||| c.bit) d = (hasCause v d || decide (c = d)) := by
  simp only [hasCause_eq, BitVec.getLsbD_or]
  cases c <;> cases d <;> simp [StreamCause.bit, StreamCause.place]

/-- Clearing the causes of a mask keeps the others. -/
theorem hasCause_and_not (v w : BitVec 6) (c : StreamCause) : hasCause (v &&& ~~~w) c = (hasCause v c && !hasCause w c) := by
  simp only [hasCause_eq, BitVec.getLsbD_and, BitVec.getLsbD_not]
  cases c <;> simp [StreamCause.place]

/-- What a change of a watch item does to the causes of its stream (R162): without a transition nothing, with one its own cause is
SET, or at CLEAR under LEVEL cleared, or at CLEAR under TRIP kept. -/
theorem hasCause_passChange (m : WatchMode) (before after : Bool) (c d : StreamCause) (v : BitVec 6) :
    hasCause (passChange m before after c v) d =
      if before = after ∨ c ≠ d then hasCause v d
      else match after, m with
        | true, _ => true
        | false, .level => false
        | false, .trip => hasCause v d
        | false, .both => true := by
  have hb : hasCause c.bit d = decide (c = d) := by cases c <;> cases d <;> rfl
  unfold passChange
  by_cases h : before = after
  · simp [h]
  · by_cases hc : c = d
    · subst hc
      have hs : hasCause c.bit c = true := by simp [hb]
      cases after <;> cases m <;> simp [h, passTransition, hasCause_or_bit, hasCause_and_not, hs]
    · cases after <;> cases m <;> simp [h, hc, passTransition, hasCause_or_bit, hasCause_and_not, hb]

/-! ### Conflicts (R76) -/

/-- Two byte ranges overlap exactly when some byte is in both (R76). -/
theorem overlaps_iff (a b : Request) : overlaps a b = true ↔ ∃ byte : Nat,
    a.address.toNat ≤ byte ∧ byte < a.address.toNat + a.beats.val * 16 ∧
      b.address.toNat ≤ byte ∧ byte < b.address.toNat + b.beats.val * 16 := by
  have ha : bytesOf a = a.beats.val * 16 := rfl
  have hb : bytesOf b = b.beats.val * 16 := rfl
  constructor
  · intro h
    have h := of_decide_eq_true h
    rw [ha, hb] at h
    exact ⟨max a.address.toNat b.address.toNat, by omega⟩
  · rintro ⟨x, hx⟩
    refine decide_eq_true ?_
    rw [ha, hb]
    omega

/-! ### The bytes of a staged write (R205) -/

/-- A sum of digits to the base 256 is below the next power, and its digits are the ones summed. -/
theorem digits_of_sum (f : Nat → Nat) (hf : ∀ i, f i < 256) : ∀ len,
    ((List.range len).map fun i => f i * 256 ^ i).sum < 256 ^ len ∧
      ∀ i, i < len → ((List.range len).map fun i => f i * 256 ^ i).sum / 256 ^ i % 256 = f i := by
  intro len
  induction len with
  | zero => exact ⟨by simp, fun i h => absurd h (by omega)⟩
  | succ n ih =>
    rw [List.range_succ, List.map_append, List.sum_append]
    simp only [List.map_cons, List.map_nil, List.sum_cons, List.sum_nil, Nat.add_zero]
    obtain ⟨h1, h2⟩ := ih
    generalize hS : ((List.range n).map fun i => f i * 256 ^ i).sum = S at h1 h2 ⊢
    refine ⟨?_, fun i hi => ?_⟩
    · have := hf n
      have : f n * 256 ^ n ≤ 255 * 256 ^ n := Nat.mul_le_mul_right _ (by omega)
      rw [Nat.pow_succ]
      omega
    · by_cases hin : i = n
      · subst hin
        rw [Nat.add_mul_div_right _ _ (by positivity), Nat.div_eq_of_lt h1, Nat.zero_add, Nat.mod_eq_of_lt (hf i)]
      · rw [← h2 i (by omega)]
        obtain ⟨d, rfl⟩ : ∃ d, n = i + (d + 1) := ⟨n - i - 1, by omega⟩
        rw [show f (i + (d + 1)) * 256 ^ (i + (d + 1)) = (f (i + (d + 1)) * 256 ^ d * 256) * 256 ^ i by ring,
          Nat.add_mul_div_right _ _ (by positivity), Nat.add_mul_mod_self_right]

/-- The merged value fits the field, and each of its bytes is the one written, or the present one (R205). -/
theorem mergeBytes_bytes (bytes : List (Nat × Byte)) (present len : Nat) :
    mergeBytes bytes present len < 256 ^ len ∧ ∀ i, i < len →
      mergeBytes bytes present len / 256 ^ i % 256 = match bytes.lookup i with
        | some b => b.toNat
        | none => present / 256 ^ i % 256 := by
  obtain ⟨h1, h2⟩ := digits_of_sum (fun i => ((bytes.lookup i).getD (byteOf present i)).toNat) (fun i => BitVec.isLt _) len
  refine ⟨h1, fun i hi => (h2 i hi).trans ?_⟩
  cases bytes.lookup i <;> simp [byteOf]

end Sys2Proof.Machine
end

