-- ==== Sys2Proof/Laws/Pages.lean ====
section
/-! SUPPORT. The management pages as rows of an offset, a length and a value: which page each layout fills, and the field that an
offset finds in it. With these a statement about every place of a page needs no case for each offset. -/

namespace Sys2Proof.Machine

/-- A row of a layout, placed at `base`. -/
def rowField (base : Nat) (r : Nat × Nat × Nat) : PageField := { off := base + r.1, len := r.2.1, value := r.2.2 }

/-- The first row that holds an offset. -/
def rowAt (rows : List (Nat × Nat × Nat)) (o : Nat) : Option (Nat × Nat × Nat) :=
  rows.find? fun r => decide (r.1 ≤ o ∧ o < r.1 + r.2.1)

/-- The field of a page that is given by rows. -/
theorem pageFieldAt_rows (base : Nat) (rows : List (Nat × Nat × Nat)) (o : Nat) :
    (pageFieldAt (rows.map (rowField 0)) o).map (PageField.at base) = (rowAt rows o).map (rowField base) := by
  simp only [pageFieldAt, rowAt, List.find?_map, Option.map_map, Function.comp_def, rowField, PageField.at, Nat.zero_add,
    Bool.decide_and]
  rfl

/-- The same for a page without records. -/
theorem pageFieldAt_rows_zero (rows : List (Nat × Nat × Nat)) (o : Nat) :
    pageFieldAt (rows.map (rowField 0)) o = (rowAt rows o).map (rowField 0) := by
  simp only [pageFieldAt, rowAt, List.find?_map, Function.comp_def, rowField, Nat.zero_add, Bool.decide_and]

/-- The field of a configuration layout, as the row with its value in `a`. -/
theorem fieldAt_rows {α : Type} (layout : List (Field α)) (a : α) (base o : Nat) :
    (fieldAt layout o).map (fun f => ({ off := base + f.off, len := f.len, value := f.get a } : PageField)) =
      (rowAt (layout.map fun f => (f.off, f.len, f.get a)) o).map (rowField base) := by
  simp only [fieldAt, rowAt, List.find?_map, Option.map_map, Function.comp_def, rowField, Bool.decide_and]

/-- The field of record `i` at offset `o` of the record, given the place of the record on its pages (R204). -/
theorem recordField_at {n : Nat} {size : Nat} (fields : Fin n → List PageField) (i : Fin n) {page base o : Nat} (ho : o < size)
    (h : page * 256 + base = size * i.val) :
    recordField size fields page (base + o) = (pageFieldAt (fields i) o).map (PageField.at base) := by
  have hsum : page * 256 + (base + o) = size * i.val + o := by omega
  have hdiv : (page * 256 + (base + o)) / size = i.val := by
    rw [hsum, Nat.mul_add_div (by omega), Nat.div_eq_of_lt ho, Nat.add_zero]
  have hmod : (page * 256 + (base + o)) % size = o := by
    rw [hsum, Nat.mul_add_mod, Nat.mod_eq_of_lt ho]
  unfold recordField
  dsimp only
  rw [dif_pos (by rw [hdiv]; exact i.isLt)]
  simp only [hdiv, hmod, Nat.add_sub_cancel]

/-! ### The page map (R204) -/

/-- Page 00h. -/
theorem fieldOf_live (s : State) (off : Nat) : fieldOf s 0x00 off = pageFieldAt (livePage s) off := rfl

/-- Page 03h. -/
theorem fieldOf_command (s : State) (off : Nat) : fieldOf s 0x03 off = pageFieldAt (commandPage s) off := rfl

/-- Page 04h. -/
theorem fieldOf_alarm (s : State) (off : Nat) : fieldOf s 0x04 off = pageFieldAt (alarmPage s) off := rfl

/-- Page 34h. -/
theorem fieldOf_globalRecord (s : State) (off : Nat) : fieldOf s 0x34 off = pageFieldAt (globalRecordPage s) off := rfl

/-- Pages 28h to 2Bh. -/
theorem fieldOf_liveStream (s : State) {p : Nat} (hp : p < 4) (off : Nat) :
    fieldOf s (0x28 + p) off = recordField 64 (liveStream s) p off := by
  interval_cases p <;> rfl

/-- Pages 30h to 33h. -/
theorem fieldOf_streamRecord (s : State) {p : Nat} (hp : p < 4) (off : Nat) :
    fieldOf s (0x30 + p) off = recordField 64 (streamRecordPage s) p off := by
  interval_cases p <;> rfl

/-- Pages 40h and 41h. -/
theorem fieldOf_flightRecord (s : State) {p : Nat} (hp : p < 2) (off : Nat) :
    fieldOf s (0x40 + p) off = recordField 8 (flightRecord s) p off := by
  interval_cases p <;> rfl

/-- A page that the map does not name has no field (R202). -/
theorem fieldOf_unnamed (s : State) {page : Nat} (off : Nat)
    (h : ¬ (page ≤ 0x04 ∨ (0x10 ≤ page ∧ page ≤ 0x13) ∨ (0x20 ≤ page ∧ page ≤ 0x2B) ∨ (0x30 ≤ page ∧ page ≤ 0x34) ∨
      page = 0x40 ∨ page = 0x41)) : fieldOf s page off = none := by
  have hs : isStagedPage page = false := by
    rw [Bool.eq_false_iff, ne_eq, isStagedPage]
    simp only [Bool.or_eq_true, Bool.and_eq_true, beq_iff_eq, decide_eq_true_eq]
    omega
  have ha : activePlace page off = none := by
    unfold activePlace
    rw [if_neg (by omega), if_neg (by omega), if_neg (by omega)]
  unfold fieldOf
  rw [if_neg (by omega), hs, ha]
  simp only [Bool.false_eq_true, if_false, Option.isSome_none]
  rw [if_neg (by omega), if_neg (by omega), if_neg (by omega), if_neg (by omega), if_neg (by omega), if_neg (by omega)]

end Sys2Proof.Machine
end

