-- ==== Sys2Proof/Tests/Slice0.lean ====
section
/-! SUPPORT. The model's own tests: ill-formed commands that the check refuses, one step on a small state for the worked
examples of the manual, and for each statement a state and operands that meet its hypotheses. -/

namespace Sys2Proof.Machine.Tests

/-! ### Small states -/

/-- The state after a command. -/
def after (c : Instr) (s : State) : State :=
  match exec c s with
  | .next t => t
  | .fault _ => s
  | .refused _ => s

/-- A READ of initiator 5. -/
def rd (tag : Fin 256) (address : BitVec 40) (beats : Fin 32) : Request :=
  { initiator := 5, tag := tag, kind := .read, address := address, beats := beats, data := [] }

/-- A WRITE of initiator 5 with that many data elements. -/
def wr (tag : Fin 256) (address : BitVec 40) (beats : Fin 32) : Request :=
  { initiator := 5, tag := tag, kind := .write, address := address, beats := beats
    data := List.replicate beats.val { data := 0, enables := 0xFFFF } }

/-- After reset, with the memory controller ready: the regime is PASS. -/
def passing : State := { State.reset with pins := { State.reset.pins with downReady := true } }

/-- `s` in another regime, which the active copy requests. -/
def inRegime (r : Regime) (s : State) : State :=
  { s with cfg := { s.cfg with
      regime := r
      active := { s.cfg.active with global := { s.cfg.active.global with
        regimeRequest := if r = .regulate then 1 else 0 } } } }

/-- `passing` in REGULATE: stream 0 is ON, PACED, and takes every miss. -/
def regulating : State := inRegime .regulate passing

/-- `s` at a time. -/
def atTime (t : Nat) (s : State) : State := { s with now := t }

/-- `s` with the active record of a stream changed. -/
def withRecord (k : StreamId) (f : StreamRecord → StreamRecord) (s : State) : State :=
  { s with cfg := { s.cfg with active := { s.cfg.active with streams := modAt s.cfg.active.streams k f } } }

/-- `s` with the active global settings changed. -/
def withGlobal (f : GlobalSettings → GlobalSettings) (s : State) : State :=
  { s with cfg := { s.cfg with active := { s.cfg.active with global := f s.cfg.active.global } } }

/-- `s` with the state of a stream. -/
def withStreamState (k : StreamId) (st : StreamState) (s : State) : State :=
  { s with cfg := { s.cfg with streamState := putAt s.cfg.streamState k st } }

/-- `s` with the balance of a stream. -/
def withBalance (k : StreamId) (b : Int) (s : State) : State :=
  { s with accounts := putAt s.accounts k { balance := b, starved := false } }

/-- `s` with an in-flight entry. -/
def withEntry (n : EntryId) (e : Entry) (s : State) : State := { s with table := putAt s.table n e }

/-- `s` with the entry stage. -/
def withStage (st : Stage) (s : State) : State := { s with stage := st }

/-- `s` with the pool. -/
def withPool (p : List Held) (s : State) : State := { s with pool := p }

/-- `s` with a command PENDING until time 0. -/
def withPending (code : Byte) (s : State) : State :=
  { s with cfg := { s.cfg with slot := { s.cfg.slot with code := code, state := .pending } } }

/-- `s` with request argument 0. -/
def withArg (b : Byte) (s : State) : State := { s with cfg := { s.cfg with reqArgs := putAt s.cfg.reqArgs 0 b } }

/-- `s` with request argument 2. -/
def withArg2 (b : Byte) (s : State) : State := { s with cfg := { s.cfg with reqArgs := putAt s.cfg.reqArgs 2 b } }

/-- `s` with the staged copy changed. -/
def withStaged (f : Settings → Settings) (s : State) : State := { s with cfg := { s.cfg with staged := f s.cfg.staged } }

/-- A WAITING transaction of a stream, placed at time 0. -/
def held (tag : Fin 256) (k : StreamId) (acceptNo : BitVec 16) : Held :=
  { req := rd tag 0x1000 1, stream := k, acceptNo := acceptNo, placedAt := 0, guards := 0, state := .waiting }

/-- The entry fields of a READ of stream 0, issued at time 0. -/
def flight (tag : Fin 256) : Flight :=
  { pair := { initiator := 5, tag := tag }, stream := some 0, kind := .read, beats := 1, issueTime := 0 }

/-- A LOST entry of the local response list. -/
def lostEntry (tag : Fin 256) : LocalEntry := { pair := { initiator := 5, tag := tag }, outcome := .lost, registered := true }

/-- `s` with a full local response list. -/
def listFull (s : State) : State := { s with localList := List.replicate 8 (lostEntry 9) }

/-- A response offered at the downstream port for entry 0. -/
def offered : OfferedResponse := { entry := 0, outcome := .okay, data := [7] }

/-- Every in-flight entry ACTIVE. -/
def tableFull (s : State) : State := { s with table := Vector.replicate 48 (.active (flight 1) none) }

/-! ### Ill-formed commands -/

theorem test_wf_refuses_write_without_its_data :
    (Instr.requestTaken { rd 1 0x1000 2 with kind := .write }).wf = false := by decide
theorem test_wf_refuses_read_with_data :
    (Instr.requestTaken { rd 1 0x1000 1 with data := [{ data := 0, enables := 0 }] }).wf = false := by decide
theorem test_wf_refuses_a_hold_timer_named_twice :
    (Instr.holdTimeout [{ initiator := 1, tag := 2 }, { initiator := 1, tag := 2 }]).wf = false := by decide
theorem test_wf_refuses_an_entry_named_twice : (Instr.responseTimeout [3, 3]).wf = false := by decide
theorem test_wf_refuses_an_early_scl_timeout : (Instr.sclTimeout 2999999).wf = false := by decide
theorem test_wf_refuses_a_late_scl_timeout : (Instr.sclTimeout 3000101).wf = false := by decide
theorem test_wf_refuses_a_known_code_as_unknown : (Instr.unknownCode 6).wf = false := by decide
theorem test_wf_refuses_a_staged_write_elsewhere : (Instr.stagedWrite 0x02 0 0).wf = false := by decide
theorem test_wf_takes_sound_commands :
    (Instr.requestTaken (wr 1 0x1000 2)).wf = true ∧ (Instr.sclTimeout 3000000).wf = true ∧
      (Instr.unknownCode 7).wf = true ∧ (Instr.stagedWrite 0x23 0xFF 0).wf = true := by decide

/-! ### Worked examples of the manual -/

/-- R8: 3840 within a page takes 16 beats to its end; 3856 does not. -/
theorem test_span_at_the_end_of_a_page :
    malformed (rd 1 3840 16) = false ∧ malformed (rd 1 3856 16) = true ∧ malformed (rd 1 3856 15) = false ∧
      malformed (rd 1 0 0) = true ∧ malformed (rd 1 0 17) = true ∧ malformed (rd 1 8 1) = true := by decide

/-- A window entry of the example of chapter 02. -/
def win (valid : Bool) (base limit : BitVec 32) (range : Bool) (low high stream permission : Byte) : WindowEntry :=
  { valid := valid, matchRange := range, stream := stream, permission := permission, low := low, high := high, base := base
    limit := limit }

/-- The active table of the example of chapter 02, under DENY. -/
def windowExample : Settings :=
  { Settings.powerOn with
    global := { GlobalSettings.powerOn with missPolicy := 1 }
    windows := putAt (putAt (putAt (putAt (putAt (putAt Settings.powerOn.windows 0 (win true 0x80000 0x807FF true 12 12 1 1))
      1 (win true 0x80000 0x807FF true 0 3 2 3)) 2 (win true 0x80000 0x8FFFF false 0 0 6 1))
      3 (win false 0 0xFFFFF false 0 0 3 3)) 4 (win true 0 0x7FFFF true 16 31 8 3)) 5 (win true 0 0xFFFFF false 0 0 0 3) }

/-- A request of the example. -/
def ask (initiator : Fin 64) (kind : Kind) (address : BitVec 40) (beats : Fin 32) : Request :=
  { initiator := initiator, tag := 0, kind := kind, address := address, beats := beats, data := [] }

theorem test_window_example :
    classify windowExample (ask 12 .read 0x80001000 8) = (1, true) ∧
    classify windowExample (ask 12 .write 0x80001000 8) = (1, false) ∧
    classify windowExample (ask 2 .write 0x80100000 4) = (2, true) ∧
    classify windowExample (ask 20 .write 0x81000000 16) = (6, false) ∧
    classify windowExample (ask 20 .read 0x40000000 16) = (8, true) ∧
    classify windowExample (ask 40 .write 0x40000000 2) = (0, true) ∧
    classify windowExample (ask 5 .read 0x100000000 1) = (0, false) ∧
    classify windowExample (ask 12 .read 0x807FFF00 16) = (1, true) := by decide

/-- The streams of the example of chapter 05: 1 PROTECTED, 3 and 9 PACED with weights 3 and 2, 5 BULK. -/
def arbiterExample (arb : Arbiter) (streams : List StreamId) : State :=
  { withRecord 1 (fun r => { r with cls := 0 }) (withRecord 3 (fun r => { r with weight := 3 })
      (withRecord 5 (fun r => { r with cls := 2 }) (withRecord 9 (fun r => { r with weight := 2 }) regulating))) with
    arb := arb
    pool := streams.map fun k => held 1 k 0 }

/-- Grants 1, 2, 3, 5, 6, 7, 9 and 12 of the example. -/
theorem test_arbiter_example :
    (arbiterExample ⟨15, 15, 0⟩ [1, 3, 5, 9]).grant = some (1, ⟨1, 15, 0⟩) ∧
    (arbiterExample ⟨1, 15, 0⟩ [1, 3, 5, 9]).grant = some (1, ⟨1, 15, 0⟩) ∧
    (arbiterExample ⟨1, 15, 0⟩ [3, 5, 9]).grant = some (3, ⟨1, 3, 2⟩) ∧
    (arbiterExample ⟨1, 3, 1⟩ [3, 5, 9]).grant = some (3, ⟨1, 3, 0⟩) ∧
    (arbiterExample ⟨1, 3, 0⟩ [3, 5, 9]).grant = some (5, ⟨1, 5, 0⟩) ∧
    (arbiterExample ⟨1, 5, 0⟩ [3, 5, 9]).grant = some (9, ⟨1, 9, 1⟩) ∧
    (arbiterExample ⟨1, 9, 0⟩ [3, 5, 9]).grant = some (3, ⟨1, 3, 2⟩) ∧
    (arbiterExample ⟨1, 5, 0⟩ [5, 9]).grant = some (9, ⟨1, 9, 1⟩) := by decide

/-- The record of stream 4 in the example of chapter 06. -/
def watchExample : StreamRecord :=
  { StreamRecord.powerOn 4 with latencyOver := 50, latencyRelease := 40, faultCount := 2, rateHigh := 4000 }

/-- A report of the example. -/
def reportOf (mean : Option Nat) (bytes : Nat) : StreamReport :=
  { StreamReport.zero with mean := mean, counts := { Counts.zero with bytes := bytes } }

/-- Sequences 9, 10, 11, 12 and 13 of the example. -/
theorem test_watch_example :
    judgeWatch watchExample .on (reportOf (some 53) 980000) ⟨false, false, false, 0⟩ = ⟨false, false, false, 1⟩ ∧
    judgeWatch watchExample .on (reportOf none 0) ⟨false, false, false, 1⟩ = ⟨false, false, false, 1⟩ ∧
    judgeWatch watchExample .on (reportOf (some 55) 1100000) ⟨false, false, false, 1⟩ = ⟨true, false, true, 0⟩ ∧
    judgeWatch watchExample .on (reportOf (some 45) 1024000) ⟨true, false, true, 0⟩ = ⟨false, false, true, 0⟩ ∧
    judgeWatch watchExample .on (reportOf (some 39) 950000) ⟨false, false, true, 0⟩ = ⟨false, false, false, 0⟩ := by decide

/-- The record of stream 5 in the RAMP example of chapter 07. -/
def rampExample : StreamRecord :=
  { StreamRecord.powerOn 5 with mode := 1, configured := 128, floor := 64, maxRate := 256, step := 32 }

theorem test_ramp_example :
    modeRate GlobalSettings.powerOn rampExample none true 128 = 160 ∧
    modeRate GlobalSettings.powerOn rampExample none true 256 = 256 ∧
    modeRate GlobalSettings.powerOn rampExample none false 256 = 224 := by decide

/-- The streams of the EMERGENCY example of chapter 07 after sequence 41: HOT was sampled once. -/
def emergencyExample (hotFilter : Nat) (pressure : Pressure) (rates : Vector Nat 16) : State :=
  let s := withRecord 0 (fun r => { r with cls := 0 })
    (withRecord 2 (fun r => { r with mode := 2, configured := 512, floor := 128, maxRate := 1024, step := 64 })
      (withRecord 6 (fun r => { r with cls := 2, mode := 1, configured := 256, floor := 32, maxRate := 512, step := 32 })
        (withRecord 9 (fun r => { r with cls := 2, configured := 1024, maxRate := 2048 })
          (withStreamState 2 .on (withStreamState 6 .on (withStreamState 9 .on regulating))))))
  { s with
    mon := { s.mon with adjustDue := true, greport := { GlobalReport.zero with regulated := true, mean := some 130 } }
    gov := { s.gov with hotFilter := hotFilter, pressure := pressure, rate := rates } }

/-- The four rates of the example. -/
def ratesOf (s : State) : List Nat := [s.gov.rate[0], s.gov.rate[2], s.gov.rate[6], s.gov.rate[9]]

/-- Sequences 42 and 44: the filter is reached, and the exit. -/
theorem test_emergency_entered :
    ratesOf (after (.adjustment true) (emergencyExample 1 .normal (Vector.replicate 16 448))) = [448, 128, 0, 0] := by decide
theorem test_emergency_left :
    ratesOf (after (.adjustment false) (emergencyExample 3 .emergency (Vector.replicate 16 0))) = [4096, 128, 32, 1024] := by decide

/-- The guarded READ of the example of chapter 04: A waits behind W, and W's expiry releases it. -/
def guardPool : List Held :=
  [ { req := ask 4 .write 0x20000000 4, stream := 7, acceptNo := 300, placedAt := 1000, guards := 0, state := .waiting },
    { req := ask 4 .read 0x20000020 2, stream := 2, acceptNo := 301, placedAt := 1200, guards := 1, state := .waiting } ]

theorem test_guard_example :
    guardCount guardPool (ask 9 .read 0x20000020 2) 2 = 0 ∧ guardCount guardPool (ask 4 .read 0x30000000 1) 2 = 0 ∧
    guardCount (guardPool.take 1) (ask 4 .read 0x20000020 2) 2 = 1 ∧
    ((leaveQueue (fun _ => []) { initiator := 4, tag := 0 } guardPool).map (·.guards)) = [0] := by decide

/-! ### The link, a commit and a retirement in single steps -/

/-- The link addressed for a read or at a place of a write. -/
def linkAt (st : TransferState) (page : Byte) (off : Nat) (s : State) : State :=
  { s with link := { s.link with state := st, page := page, offset := off } }

/-- The part code on page 00h is 01A0h, low byte first (R204). -/
theorem test_read_part_code :
    (after (.readByte false true) (linkAt .read 0 0 State.reset)).ports.linkSent = [0xA0] ∧
    (after (.readByte false false) (linkAt .read 0 1 State.reset)).ports.linkSent = [0x01] ∧
    (after (.readByte true true) (linkAt .read 0 0x12 State.reset)).ports.linkSent = [0x01] := by decide

/-- The epoch length is written whole at its highest byte (R201). -/
theorem test_write_epoch_length :
    (after (.writeByte 0x2C) (linkAt .writeData 0x01 4 State.reset)).cfg.staged.global.epochLength = 10 ∧
    (after (.writeByte 0x01) (after (.writeByte 0x2C) (linkAt .writeData 0x01 4 State.reset))).cfg.staged.global.epochLength
      = 300 := by decide

/-- After an SCL timeout the device ignores the bus: a byte is not acknowledged, though the one before it was, and nothing else
changes (R203). -/
theorem test_byte_after_scl_timeout :
    let s := after (.writeByte 0x01) (linkAt .writePage 0 0 State.reset)
    let t := after (.sclTimeout 3000000) s
    s.ports.linkAck = true ∧ t.link.state = .idle ∧ t.link.page = 0x01 ∧
    after (.writeByte 0x05) t = { t with ports := { t.ports with linkAck := false } } := by decide

/-- A COMMIT of the power-on values becomes PENDING, and the commit event at its boundary carries a request for REGULATE out. -/
theorem test_commit_and_its_event :
    (after .commit State.reset).cfg.slot.state = .pending ∧
    (after .commitEvent (withPending 0x01
      (withStaged (fun c => { c with global := { c.global with regimeRequest := 1 } }) passing))).cfg.regime = .regulate := by
  decide

/-! ### States that meet the hypotheses of the statements -/

theorem test_witness_QueueFrontRuns : ({ State.reset with pending := [.issue] } : State).pending = .issue :: [] := by decide

theorem test_witness_IdleDeviceRuns :
    (State.reset.pending = [] ∧ (after .resetAssert State.reset).pins.reset = true ∧
      (after .resetAssert State.reset).pending = []) ∧
    ((atTime 100 State.reset).pending = [] ∧ dueEvent (atTime 100 State.reset) = some .refillTick) ∧
    (State.reset.Running ∧ dueEvent State.reset = none) := by decide

/-- A starving stream: its balance is below 0, and its head could go. -/
def starvingState : State := withPool [held 1 0 0] (withBalance 0 (-1) regulating)

/-- What follows at once from a state: each event of the list, and nothing while RESET# is asserted. -/
theorem test_due_at_once :
    let offering : State := { passing with offers := [{ offerer := .stage, entry := lostEntry 1 }] }
    let slot := Stage.waitSlot (rd 1 0x1000 1) true 0 0
    dueEvent offering = some .offerAccepted ∧ dueEvent (listFull offering) = none ∧
    dueEvent (withStage slot regulating) = some .placement ∧
    dueEvent (withStage slot (withRecord 0 (fun r => { r with maxSlots := 0 }) regulating)) = none ∧
    dueEvent (inRegime .draining passing) = some .poolEmpty ∧
    dueEvent (withPending 0x04 (withStreamState 0 .retiring regulating)) = some .retirementCompletion ∧
    dueEvent (withEntry 0 (.active (flight 1) none) (withPending 0x04 (withStreamState 0 .retiring regulating))) = none ∧
    dueEvent (withStage (.waitIssue (rd 1 0x1000 1) true) passing) = some .passIssue ∧
    dueEvent (withStage (.waitIssue (rd 1 0x1000 1) true) State.reset) = none ∧
    dueEvent (withPool [held 1 0 0] regulating) = some .issue ∧ dueEvent starvingState = none ∧
    dueEvent (after .resetAssert offering) = none := by decide

/-- The boundary, the commit, the adjustment and the tick are due at their times, a timeout at the end of its window of 1 us. -/
theorem test_due_timers :
    let quiet (t : Nat) (s : State) : State :=
      { atTime t s with refillDue := t + 1, mon := { s.mon with epochEnd := t + 1 } }
    let waiting := withStage (.waitSlot (rd 1 0x1000 1) true 0 0) (withRecord 0 (fun r => { r with maxSlots := 0 }) regulating)
    dueEvent (atTime 100000 passing) = some .publication ∧ dueEvent (atTime 100 passing) = some .refillTick ∧
    dueEvent (atTime 99 passing) = none ∧ dueEvent (withPending 0x01 passing) = some .commitEvent ∧
    dueEvent { passing with mon := { passing.mon with adjustDue := true } } = some (.adjustment passing.pins.hot) ∧
    dueEvent (quiet 10100 waiting) = some .stallTimeout ∧ dueEvent (quiet 10099 waiting) = none ∧
    dueEvent (quiet 100100 (withPool [held 1 0 0] (inRegime .pass passing))) =
      some (.holdTimeout [(held 1 0 0).pair]) ∧
    dueEvent (quiet 100099 (withPool [held 1 0 0] (inRegime .pass passing))) = none ∧
    dueEvent (quiet 200100 (withEntry 47 (.active (flight 1) none) passing)) = some (.responseTimeout [47]) ∧
    dueEvent (quiet 200099 (withEntry 47 (.active (flight 1) none) passing)) = none := by decide

theorem test_witness_ResetHoldsTheDevice : (after .resetAssert State.reset).pins.reset = true := by decide

theorem test_witness_EventEpilogue : starvingState.starving 0 = true ∧ regulating.starving 0 = false := by decide

theorem test_witness_SpanCheck :
    passing.CanTake ∧ ¬ (1 ≤ (rd 1 0 0).beats.val ∧ (rd 1 0 0).beats.val ≤ 16) ∧
    ¬ (1 ≤ (rd 1 0 17).beats.val ∧ (rd 1 0 17).beats.val ≤ 16) ∧ (rd 1 8 1).address.toNat % 16 ≠ 0 ∧
    4096 < (rd 1 3856 16).address.toNat % 4096 + (rd 1 3856 16).beats.val * 16 ∧
    ¬ 4096 < (rd 1 3840 16).address.toNat % 4096 + (rd 1 3840 16).beats.val * 16 := by decide

theorem test_witness_DuplicateRefused :
    let s := { passing with tagMap := [{ initiator := 5, tag := 1 }] }
    s.CanTake ∧ malformed (rd 1 0x1000 1) = false ∧ pairOf (rd 1 0x1000 1) ∈ s.tagMap := by decide

theorem test_witness_WindowLookup :
    windowMatches windowExample.windows[(1 : WindowId)] (ask 2 .write 0x80100000 4) = true ∧
    (∀ m : WindowId, m < 1 → windowMatches windowExample.windows[m] (ask 2 .write 0x80100000 4) = false) ∧
    ∀ n : WindowId, windowMatches windowExample.windows[n] (ask 5 .read 0x100000000 1) = false := by decide

/-- The branches of the checks: span, duplicate, window, retired, placed, FULL, and WAIT_SLOT. -/
theorem test_witness_RegulatedRequestChecks :
    (regulating.CanTake ∧ regulating.cfg.regime = .regulate) ∧ malformed (rd 1 8 1) = true ∧
    malformed (rd 1 0x1000 1) = false ∧ (pairOf (rd 1 0x1000 1) ∈ [({ initiator := 5, tag := 1 } : TagPair)]) ∧
    (classify (withGlobal (fun g => { g with missPolicy := 1 }) regulating).cfg.active (rd 1 0x1000 1)).2 = false ∧
    classify regulating.cfg.active (rd 1 0x1000 1) = (0, true) ∧
    (withStreamState 0 .retiring regulating).cfg.streamState[(0 : StreamId)] = .retiring ∧
    regulating.placementOk 0 = true ∧
    (let s := withRecord 0 (fun r => { r with maxSlots := 0, overflow := 1 }) regulating
     s.placementOk 0 = false ∧ (s.record 0).overflow = 1) ∧
    (let s := withRecord 0 (fun r => { r with maxSlots := 0 }) regulating
     s.placementOk 0 = false ∧ (s.record 0).overflow ≠ 1) := by decide

/-- Requests that conflict and that do not: one shared byte, adjacent ranges, two READs, one stream. -/
theorem test_conflicts :
    conflicts (rd 1 0x1000 2) 0 (wr 2 0x1010 1) 1 = true ∧ conflicts (rd 1 0x1000 1) 0 (wr 2 0x1010 1) 1 = false ∧
    conflicts (rd 1 0x1000 2) 0 (rd 2 0x1010 1) 1 = false ∧ conflicts (rd 1 0x1000 2) 1 (wr 2 0x1010 1) 1 = false := by decide

theorem test_witness_PlacementTestAndEffect :
    regulating.queueHead 0 = none ∧ regulating.placementOk 0 = true ∧
    (withRecord 0 (fun r => { r with maxSlots := 1 }) (withPool [held 1 0 0] regulating)).placementOk 0 = false ∧
    ({ withPool [held 1 0 7] regulating with acceptCtr := 7 } : State).placementOk 0 = false := by decide

theorem test_witness_UnregulatedAndHeldOffRequests :
    (passing.CanTake ∧ malformed (rd 1 0x1000 1) = false ∧ pairOf (rd 1 0x1000 1) ∉ passing.tagMap) ∧
    (passing.cfg.regime = .pass ∧ passing.CanIssue ∧ passing.LowestFree 0) ∧
    (State.reset.cfg.regime = .pass ∧ ¬ State.reset.CanIssue) ∧
    ((tableFull passing).CanTake ∧ ¬ ∃ n : EntryId, (tableFull passing).table[n] = .free) ∧
    ((inRegime .draining passing).CanTake ∧ (inRegime .draining passing).cfg.regime = .draining) ∧
    ((after .urstAssert passing).Running ∧ (after .urstAssert passing).pins.urst = true) ∧
    (withStage (.waitIssue (rd 1 0x1000 1) true) passing).stage = .waitIssue (rd 1 0x1000 1) true ∧
    (withStage (.waitIssue (rd 1 0x1000 1) true) passing).LowestFree 0 ∧
    (withStage (.waitIssue (rd 1 0x1000 1) true) State.reset).Running ∧ passing.stage = .empty := by decide

/-- A request that waits for a slot of stream 0 since time 0. -/
def stalled (s : State) : State := withStage (.waitSlot (rd 1 0x1000 1) true 0 0) s

theorem test_witness_WaitSlotEvents :
    ((stalled regulating).Running ∧ (stalled regulating).stage = .waitSlot (rd 1 0x1000 1) true 0 0) ∧
    (stalled regulating).placementOk 0 = true ∧
    (withRecord 0 (fun r => { r with maxSlots := 0 }) (stalled regulating)).placementOk 0 = false ∧
    0 + (atTime 10000 (stalled regulating)).settings.stallTimeout.toNat * 100 ≤ (atTime 10000 (stalled regulating)).now ∧
    (atTime 9999 (stalled regulating)).now < 0 + (atTime 9999 (stalled regulating)).settings.stallTimeout.toNat * 100 ∧
    passing.stage = .empty := by decide

/-- An offer of the entry stage. -/
def anOffer : Offer := { offerer := .stage, entry := { pair := { initiator := 5, tag := 1 }, outcome := .denied .full, registered := true } }

theorem test_witness_OffersAndTheirAcceptance :
    passing.localList.length < 8 ∧ 8 ≤ (listFull passing).localList.length ∧
    (withEntry 0 (.expiring (flight 1) .timeout) passing).table[(0 : EntryId)] = .expiring (flight 1) .timeout ∧
    (withEntry 0 (.expiring (flight 1) .dreset) passing).table[(0 : EntryId)] = .expiring (flight 1) .dreset ∧
    (let s := { passing with offers := [anOffer], localList := List.replicate 7 (lostEntry 9) }
     s.Running ∧ s.offers = anOffer :: [] ∧ s.localList.length < 8) ∧
    (passing.Running ∧ passing.offers = []) := by decide

theorem test_witness_DrainReports :
    (let s := inRegime .draining passing
     s.Running ∧ s.cfg.regime = .draining ∧ s.pool = [] ∧ s.stage = .empty) ∧
    (let s := withStage (.waitDrain (rd 1 0x1000 1) true) (inRegime .draining passing)
     s.stage = .waitDrain (rd 1 0x1000 1) true ∧ s.CanIssue ∧ s.LowestFree 0) ∧
    (let s := withStage (.waitDrain (rd 1 0x1000 1) true) (inRegime .draining State.reset)
     s.Running ∧ s.stage = .waitDrain (rd 1 0x1000 1) true ∧ ¬ s.CanIssue) ∧
    (withPool [held 1 0 0] (inRegime .draining passing)).pool ≠ [] ∧
    (let s := withPending 0x04 (withStreamState 0 .retiring regulating)
     s.Running ∧ s.pendingCode 0x04 = true ∧ s.cfg.streamState[(0 : StreamId)] = .retiring ∧
     (∀ j : StreamId, s.cfg.streamState[j] = .retiring → j = 0) ∧ s.used 0 = 0 ∧
     (∀ n : EntryId, s.table[n].resident = none) ∧ (withPool [held 1 0 0] s).used 0 ≠ 0 ∧
     (withEntry 47 (.active (flight 1) none) s).table[(47 : EntryId)].resident = some (flight 1)) ∧
    passing.pendingCode 0x04 = false ∧ ∀ k : StreamId, passing.cfg.streamState[k] ≠ .retiring := by decide

theorem test_witness_DownstreamDelivery :
    let s := { withEntry 0 (.active (flight 1) (some 5)) passing with downResp := some offered }
    s.Running ∧ s.pins.urst = false ∧ s.downResp = some offered ∧ s.table[offered.entry] = .active (flight 1) (some 5) ∧
    s.localList = [] ∧ s.preferred = .downstream := by decide

theorem test_witness_LocalDelivery :
    (let s := { passing with localList := [lostEntry 9] }
     s.Running ∧ s.pins.urst = false ∧ s.localList = lostEntry 9 :: [] ∧ s.downResp = none ∧ s.offers = []) ∧
    (let s := { listFull passing with offers := [anOffer], preferred := .local }
     s.localList = lostEntry 9 :: List.replicate 7 (lostEntry 9) ∧ s.preferred = .local ∧ s.offers = anOffer :: [] ∧
     (List.replicate 7 (lostEntry 9)).length < 8) ∧
    ((after .urstAssert passing).pins.urst = true ∧ passing.downResp = none ∧ passing.localList = []) := by decide

theorem test_witness_ResponseArrivalTable :
    (passing.Running ∧ passing.pins.drst = false ∧ passing.downResp = none) ∧
    48 ≤ ({ tag := 48, outcome := .okay, data := [] } : MemResponse).tag.val ∧
    ((47 : EntryId).val = ({ tag := 47, outcome := .okay, data := [] } : MemResponse).tag.val ∧
      passing.table[(47 : EntryId)] = .free) ∧
    (withEntry 47 (.expiring (flight 1) .dreset) passing).table[(47 : EntryId)] = .expiring (flight 1) .dreset ∧
    (withEntry 47 (.active (flight 1) none) passing).table[(47 : EntryId)] = .active (flight 1) none ∧
    (withEntry 47 (.expiring (flight 1) .timeout) passing).table[(47 : EntryId)] = .expiring (flight 1) .timeout ∧
    (withEntry 47 (.quarantined (flight 1) .timeout) passing).table[(47 : EntryId)] = .quarantined (flight 1) .timeout ∧
    (withEntry 47 (.quarantined (flight 1) .ureset) passing).table[(47 : EntryId)] = .quarantined (flight 1) .ureset ∧
    (after .drstAssert passing).pins.drst = true ∧
    ({ passing with downResp := some offered } : State).downResp.isSome = true := by decide

theorem test_witness_ResponseTimerExpiry :
    (let s := atTime 200000 (withEntry 3 (.active (flight 1) none) passing)
     s.Running ∧ s.table[(3 : EntryId)] = .active (flight 1) none ∧
     (flight 1).issueTime + s.settings.responseTimeout.toNat * 100 ≤ s.now) ∧
    (let s := atTime 199999 (withEntry 3 (.active (flight 1) none) passing)
     s.now < (flight 1).issueTime + s.settings.responseTimeout.toNat * 100) ∧
    passing.table[(3 : EntryId)] = .free := by decide

theorem test_witness_HoldTimerExpiry :
    (let s := atTime 100000 (withPool [held 1 0 0, held 2 0 1, held 3 0 2] regulating)
     s.Running ∧ s.pool = [held 1 0 0] ++ held 2 0 1 :: [held 3 0 2] ∧ (held 2 0 1).state = .waiting ∧
     (∀ g ∈ [held 1 0 0] ++ [held 3 0 2], g.pair ≠ (held 2 0 1).pair) ∧ (s.record (held 2 0 1).stream).holdLimit ≠ 0 ∧
     (held 2 0 1).placedAt + (s.record (held 2 0 1).stream).holdLimit.toNat * 100 ≤ s.now) ∧
    (let s := atTime 99999 (withPool [held 1 0 0] regulating)
     s.now < (held 1 0 0).placedAt + (s.record (held 1 0 0).stream).holdLimit.toNat * 100) := by decide

theorem test_witness_EligibleStream :
    (withPool [held 1 0 0] regulating).eligible 0 = true ∧ starvingState.eligible 0 = false ∧
    (inRegime .draining starvingState).eligible 0 = true ∧ (inRegime .pass starvingState).eligible 0 = false := by decide

theorem test_witness_ProtectedFirst :
    let s := arbiterExample ⟨1, 15, 0⟩ [1, 3]
    s.isProtected 1 = true ∧ s.eligible 1 = true ∧
    ∀ j : StreamId, s.isProtected j = true → s.eligible j = true →
      ((1 : StreamId) - (s.arb.lastProtected + 1)).val ≤ (j - (s.arb.lastProtected + 1)).val := by decide

theorem test_witness_WeightedRotation :
    (let s := arbiterExample ⟨1, 3, 1⟩ [3, 5]
     (∀ j : StreamId, ¬ (s.isProtected j = true ∧ s.eligible j = true)) ∧ s.isProtected s.arb.current = false ∧
     s.eligible s.arb.current = true ∧ 0 < s.arb.grantsLeft) ∧
    (let s := arbiterExample ⟨1, 3, 0⟩ [3, 5]
     ¬ 0 < s.arb.grantsLeft ∧ s.isProtected 5 = false ∧ s.eligible 5 = true ∧
     ∀ j : StreamId, s.isProtected j = false → s.eligible j = true →
       ((5 : StreamId) - (s.arb.current + 1)).val ≤ (j - (s.arb.current + 1)).val) ∧
    ∀ j : StreamId, (arbiterExample ⟨1, 3, 0⟩ []).eligible j = false := by decide

theorem test_witness_IssueEvent :
    (let s := withPool [held 1 0 0] regulating
     s.CanIssue ∧ s.LowestFree 0 ∧ s.grant = some (0, ⟨15, 0, 0⟩) ∧ s.queueHead 0 = some (held 1 0 0)) ∧
    (State.reset.Running ∧ ¬ State.reset.CanIssue) ∧ (∀ n : EntryId, (tableFull regulating).table[n] ≠ .free) ∧
    regulating.grant = none := by decide

/-- The transaction that leaves its queue releases the guard of the one behind it, of another stream; the one before it stays. -/
theorem test_leaves_queue :
    let other : Held := { held 3 1 2 with req := wr 3 0x1000 1, guards := 2 }
    (held 2 0 1).state = .waiting ∧ (∀ g ∈ [held 1 0 0], ¬ (g.state = .waiting ∧ g.pair = (held 2 0 1).pair)) ∧
    leaveQueue (fun _ => []) (held 2 0 1).pair ([held 1 0 0] ++ held 2 0 1 :: [other]) =
      [held 1 0 0, { other with guards := 1 }] := by decide

theorem test_witness_NoIssueBelowZero :
    let s := withPool [held 1 0 0] regulating
    exec .issue s = .next (after .issue s) ∧ s.cfg.regime = .regulate ∧ s.table[(0 : EntryId)] = .free ∧
    (after .issue s).table[(0 : EntryId)] = .active (flight 1) none ∧ (flight 1).stream = some 0 :=
  ⟨rfl, by decide, by decide, by decide, by decide⟩

theorem test_witness_RefillTick :
    (regulating.Running ∧ (atTime 100 regulating).refillDue ≤ (atTime 100 regulating).now) ∧
    (atTime 99 regulating).now < (atTime 99 regulating).refillDue := by decide

theorem test_witness_PublicationEvent :
    (passing.Running ∧ (atTime 100000 passing).mon.epochEnd ≤ (atTime 100000 passing).now) ∧
    (atTime 99999 passing).now < (atTime 99999 passing).mon.epochEnd := by decide

/-- Each clause of the latency watch at its boundary; the rate limits in order. -/
theorem test_witness_WatchJudgement :
    StreamState.on ≠ .off ∧ watchExample.latencyOver.toNat ≠ 0 ∧ (StreamRecord.powerOn 0).latencyOver.toNat = 0 ∧
    (reportOf none 0).mean = none ∧ (reportOf (some 51) 0).mean = some 51 ∧ watchExample.latencyOver.toNat < 51 ∧
    (⟨false, false, false, 1⟩ : Watch).latency = false ∧ watchExample.faultCount.toNat ≤ 1 + 1 ∧
    0 + 1 < watchExample.faultCount.toNat ∧ 50 ≤ watchExample.latencyOver.toNat ∧
    (⟨false, false, true, 0⟩ : Watch).latency = true ∧ 39 < watchExample.latencyRelease.toNat ∧
    watchExample.latencyRelease.toNat ≤ 40 ∧ 1 < watchExample.faultCount.toNat ∧ watchExample.rateHigh.toNat ≠ 0 ∧
    ({ watchExample with rateLow := 4000 } : StreamRecord).rateLow.toNat ≠ 0 ∧
    ({ watchExample with rateLow := 4000 } : StreamRecord).rateLow.toNat ≤ watchExample.rateHigh.toNat := by decide

theorem test_witness_WatchModeTable :
    StreamCause.rateLow ≠ .rateHigh ∧ (0x07 : Byte).getLsbD 0 = true ∧ (0x07 : Byte).getLsbD 1 = true ∧
    (0x07 : Byte).getLsbD 2 = true := by decide

theorem test_witness_AdjustmentEvent :
    let n := emergencyExample 1 .normal (Vector.replicate 16 448)
    let e := emergencyExample 3 .emergency (Vector.replicate 16 0)
    (passing.Running ∧ passing.mon.adjustDue = false) ∧
    (n.Running ∧ n.mon.adjustDue = true ∧ n.mon.greport.regulated = true ∧ n.cfg.regime = .regulate ∧ n.gov.pressure = .normal) ∧
    (inRegime .pass n).cfg.regime ≠ .regulate ∧
    n.settings.hotFilter.toNat ≤ min 4 (n.gov.hotFilter + 1) ∧ critical n.settings n.mon.greport.mean = false ∧
    ¬ n.settings.hotFilter.toNat ≤ 0 ∧
    (e.Running ∧ e.mon.adjustDue = true ∧ e.mon.greport.regulated = true ∧ e.cfg.regime = .regulate ∧
      e.gov.pressure = .emergency) ∧ criticalRelease e.settings e.mon.greport.mean = true := by decide

/-- The target is 100 and the tolerance 10 (power-on): means 111, 110, 90 and 89, and stream 2 at its floor, with the target-miss
counter below and at the count of 8. -/
theorem test_witness_ModeAdjustments :
    let s := emergencyExample 0 .normal (Vector.replicate 16 128)
    let g := s.settings
    s.cfg.streamState[(1 : StreamId)] = .off ∧ s.cfg.streamState[(2 : StreamId)] ≠ .off ∧
    modeOf (s.record 0) = .fixed ∧ modeOf (s.record 6) = .ramp ∧ modeOf (s.record 2) = .cruise ∧
    g.cruiseTarget.toNat + g.cruiseTolerance.toNat < 111 ∧ ¬ g.cruiseTarget.toNat + g.cruiseTolerance.toNat < 110 ∧
    89 < g.cruiseTarget.toNat - g.cruiseTolerance.toNat ∧ ¬ 90 < g.cruiseTarget.toNat - g.cruiseTolerance.toNat ∧
    s.gov.rate[(2 : StreamId)] = (s.record 2).floor.toNat ∧ s.gov.miss[(2 : StreamId)] + 1 < g.missCount.toNat ∧
    g.missCount.toNat ≤ 7 + 1 ∧
    (emergencyExample 0 .normal (Vector.replicate 16 512)).gov.rate[(2 : StreamId)] ≠ (s.record 2).floor.toNat := by
  decide

/-- `s` with a PENDING COMMIT at its boundary, the staged copy being the active one with a change. -/
def committing (f : Settings → Settings) (s : State) : State := withPending 0x01 (withStaged f s)

/-- A staged copy that asks for REGULATE. -/
def askRegulate (c : Settings) : Settings := { c with global := { c.global with regimeRequest := 1 } }

/-- A staged copy with a changed record of stream 0. -/
def stageStream (f : StreamRecord → StreamRecord) (c : Settings) : Settings := { c with streams := modAt c.streams 0 f }

theorem test_witness_CommitEventOutcome :
    (passing.Running ∧ passing.pendingCode 0x01 = false) ∧
    (let s := committing id regulating
     s.Running ∧ s.pendingCode 0x01 = true ∧ s.cfg.slot.judgeAt ≤ s.now ∧ boundaryFailure s = none ∧
     s.cfg.staged.global.regimeRequest ≠ 1 ∧ s.cfg.regime = .regulate ∧ s.pool = []) ∧
    (let s := committing (stageStream fun r => { r with maxSlots := 1 }) (withPool [held 1 0 0, held 2 0 1] regulating)
     s.cfg.staged.streams[(0 : StreamId)].maxSlots.toNat < s.used 0 ∧
     ∀ j : StreamId, j < 0 → ¬ s.cfg.staged.streams[j].maxSlots.toNat < s.used j) ∧
    (let s := committing (stageStream fun r => { r with stateRequest := 0 }) (withPool [held 1 0 0] regulating)
     (∀ j : StreamId, ¬ s.cfg.staged.streams[j].maxSlots.toNat < s.used j) ∧ s.cfg.streamState[(0 : StreamId)] = .on ∧
     requestsOn s.cfg.staged.streams[(0 : StreamId)] = false ∧ 0 < s.used 0) ∧
    (let s := committing (fun c => { c with streams := mapAll c.streams fun k r => if k = 0 then r else { r with reserved := 8 } })
       (withPool [held 1 0 0] regulating)
     64 - reservedTotal s.cfg.staged <
       (allStreams.map fun k => s.used k - s.cfg.staged.streams[k].reserved.toNat).sum ∧
     (∀ j : StreamId, ¬ s.cfg.staged.streams[j].maxSlots.toNat < s.used j) ∧
     ∀ j : StreamId, ¬ (s.cfg.streamState[j] = .on ∧ requestsOn s.cfg.staged.streams[j] = false ∧ 0 < s.used j)) ∧
    (committing askRegulate passing).cfg.staged.global.regimeRequest = 1 ∧
    (committing id passing).cfg.regime = .pass := by decide

theorem test_witness_CommitEventOutcome_with_a_pool :
    let s := committing id (withPool [held 1 0 0] regulating)
    let d := committing id (withPool [held 1 0 0] (inRegime .draining passing))
    s.RegimeSound ∧ s.cfg.regime = .regulate ∧ s.pool ≠ [] ∧ boundaryFailure s = none ∧ d.RegimeSound ∧ d.cfg.regime = .draining ∧
    boundaryFailure d = none :=
  ⟨⟨by decide, by decide, trivial⟩, by decide, by decide, by decide,
    ⟨by decide, by decide, trivial⟩, by decide, by decide⟩

/-- An applied commit with a request in each wait of the entry stage, in each regime that has it, and with the staged copy asking for
REGULATE and not. -/
theorem test_witness_CommitEventOutcome_entry_stage :
    let slot := Stage.waitSlot (rd 3 0x3000 1) true 0 0
    let applies (s : State) := s.Running ∧ s.pendingCode 0x01 = true ∧ s.cfg.slot.judgeAt ≤ s.now ∧ boundaryFailure s = none
    (let s := committing (stageStream fun r => { r with stateRequest := 0 }) (withStage slot regulating)
     let t := committing (fun c => askRegulate (stageStream (fun r => { r with stateRequest := 0 }) c)) (withStage slot regulating)
     applies s ∧ s.stage = slot ∧ s.cfg.regime = .regulate ∧ s.cfg.staged.global.regimeRequest ≠ 1 ∧ s.pool = [] ∧ s.CanIssue ∧
     s.LowestFree 0 ∧ applies t ∧ t.cfg.staged.global.regimeRequest = 1 ∧
     requestsOn t.cfg.staged.streams[(0 : StreamId)] = false) ∧
    (let s := committing id (withPool [held 1 0 0] (withStage slot regulating))
     applies s ∧ s.pool ≠ [] ∧ s.cfg.staged.global.regimeRequest ≠ 1) ∧
    (let s := committing id (withStage slot (inRegime .regulate State.reset))
     applies s ∧ s.pool = [] ∧ ¬ s.CanIssue) ∧
    (let s := committing askRegulate (withStage (.waitIssue (rd 3 0x3000 1) true) passing)
     applies s ∧ s.stage = .waitIssue (rd 3 0x3000 1) true ∧ s.cfg.regime = .pass ∧ s.cfg.staged.global.regimeRequest = 1 ∧
     (committing id passing).cfg.staged.global.regimeRequest ≠ 1) ∧
    (let s := committing askRegulate (withStage (.waitDrain (rd 3 0x3000 1) true) (inRegime .draining passing))
     applies s ∧ s.stage = .waitDrain (rd 3 0x3000 1) true ∧ s.cfg.regime = .draining) ∧
    (let s := committing id (withStage (.waitRefusal (rd 3 0x3000 1) true none .span) passing)
     applies s ∧ s.stage = .waitRefusal (rd 3 0x3000 1) true none .span) := by decide

/-- What an applied commit does to a waiting request: refused WINDOW when its stream goes OFF, placed, refused FULL, still waiting. -/
theorem test_commit_reexamines_waiting_request :
    let slot := Stage.waitSlot (rd 3 0x3000 1) true 0 0
    let commit (f : StreamRecord → StreamRecord) (pool : List Held) :=
      after .commitEvent (committing (fun c => askRegulate (stageStream f c)) (withPool pool (withStage slot regulating)))
    (commit (fun r => { r with stateRequest := 0 }) []).localList.length = 1 ∧ (commit id []).pool.length = 1 ∧
    (commit (fun r => { r with maxSlots := 1, overflow := 1 }) [held 1 0 0]).localList.length = 1 ∧
    (commit (fun r => { r with maxSlots := 1 }) [held 1 0 0]).stage = slot := by decide

/-- The watch of stream 0 with each item TRIPPED. -/
def tripped (s : State) : State :=
  { s with mon := { s.mon with watches := putAt s.mon.watches 0 { high := true, low := true, latency := true, fault := 2 } } }

/-- A changed and an unchanged watch, with TRIPPED items, under each mode; the epoch in progress at its end and before it; a held
transaction and an entry that a changed limit expires. -/
theorem test_witness_CommitEventOutcome_settings :
    let applies (s : State) := s.Running ∧ s.pendingCode 0x01 = true ∧ s.cfg.slot.judgeAt ≤ s.now ∧ boundaryFailure s = none
    (∀ mode : Fin 3,
      let s := committing (stageStream fun r => { r with rateMode := BitVec.ofNat 8 mode.val, rateHigh := 7 }) (tripped regulating)
      applies s ∧ s.mon.watches[(0 : StreamId)].high = true ∧
      (s.record 0).rateHigh ≠ s.cfg.staged.streams[(0 : StreamId)].rateHigh ∧
      (s.record 0).latencyOver = s.cfg.staged.streams[(0 : StreamId)].latencyOver) ∧
    watchModeOf 0 = .level ∧ watchModeOf 1 = .trip ∧ watchModeOf 2 = .both ∧
    (let s := committing (fun c => { c with global := { c.global with epochLength := 5 } }) (atTime 99999 passing)
     applies s ∧ s.now < s.mon.epochEnd) ∧
    (let s := committing id (atTime 100000 passing)
     applies s ∧ ¬ s.now < s.mon.epochEnd) ∧
    (let s := committing (stageStream fun r => { r with holdLimit := 1 }) (withPool [held 1 0 0] (atTime 100 regulating))
     applies s ∧ (held 1 0 0).state = .waiting ∧ (s.record 0).holdLimit ≠ s.cfg.staged.streams[(0 : StreamId)].holdLimit ∧
     s.cfg.staged.streams[(0 : StreamId)].holdLimit ≠ 0 ∧
     (held 1 0 0).placedAt + s.cfg.staged.streams[(0 : StreamId)].holdLimit.toNat * 100 ≤ s.now) ∧
    (let s := committing (fun c => { c with global := { c.global with responseTimeout := 16 } })
       (withEntry 47 (.active (flight 1) none) (atTime 1600 passing))
     applies s ∧ s.settings.responseTimeout ≠ s.cfg.staged.global.responseTimeout ∧
     s.table[(47 : EntryId)] = .active (flight 1) none ∧
     (flight 1).issueTime + s.cfg.staged.global.responseTimeout.toNat * 100 ≤ s.now) := by decide

/-- An applied commit that enters REGULATE, one that stays in it with changed and unchanged fields, and the classes of R48. -/
theorem test_witness_CommitAccountsAndRates :
    (let s := committing askRegulate passing
     s.Running ∧ s.pendingCode 0x01 = true ∧ s.cfg.slot.judgeAt ≤ s.now ∧ boundaryFailure s = none ∧
     s.cfg.regime ≠ .regulate ∧ s.cfg.staged.global.regimeRequest = 1 ∧ classOf s.cfg.staged.streams[(0 : StreamId)] ≠ .prot) ∧
    (let s := committing (fun c => stageStream (fun r => { r with cls := 0 }) (askRegulate c)) regulating
     boundaryFailure s = none ∧ s.cfg.regime = .regulate ∧ s.gov.pressure = .normal ∧
     classOf s.cfg.staged.streams[(0 : StreamId)] = .prot ∧ classOf s.cfg.staged.streams[(1 : StreamId)] ≠ .prot) ∧
    (let s := committing askRegulate (emergencyExample 3 .emergency (Vector.replicate 16 0))
     s.Running ∧ s.pendingCode 0x01 = true ∧ s.cfg.slot.judgeAt ≤ s.now ∧ boundaryFailure s = none ∧
     s.cfg.regime = .regulate ∧ s.gov.pressure = .emergency) ∧
    ({ starvingState with accounts := putAt starvingState.accounts 0 { balance := -1, starved := true } } :
      State).accounts[(0 : StreamId)].starved = true := by decide

/-- A commit leaves a starved flag as it stands, CLEAR or SET; one that makes the stream PROTECTED clears it (R57). -/
theorem test_commit_keeps_starved :
    let commit (f : StreamRecord → StreamRecord) (starved : Bool) (s : State) : Bool :=
      (after .commitEvent (committing (fun c => askRegulate (stageStream f c))
        { s with accounts := putAt s.accounts 0 { balance := -1, starved := starved } })).accounts[(0 : StreamId)].starved
    commit id false regulating = false ∧ commit id true regulating = true ∧ commit id false passing = false ∧
    commit id true passing = true ∧ commit id false starvingState = true ∧
    commit (fun r => { r with cls := 0 }) true regulating = false := by decide

theorem test_witness_CommitAccountsAndRates_next :
    exec .commitEvent (committing askRegulate passing) = .next (after .commitEvent (committing askRegulate passing)) := rfl

theorem test_witness_DeviceReset :
    State.reset.pins.reset = false ∧ (after .resetAssert State.reset).pins.reset = true := by decide

theorem test_witness_UpstreamReset : passing.Running ∧ State.reset.pins.reset = false := by decide

/-- URST# with a held response, of stream 0, and one transaction in the pool: one reset drain to the stream and globally, the peaks
of one slot, and the counts before it kept. -/
theorem test_urst_counts :
    let s := countTo (some 0) Acc.late
      (withEntry 0 (.active (flight 2) (some 5)) (withPool [held 1 0 0] { regulating with downResp := some offered }))
    let t := after .urstAssert s
    t.mon.gacc.counts.drain = 1 ∧ t.mon.gacc.counts.peak = 1 ∧ t.mon.gacc.counts.late = 1 ∧ t.mon.discard = 2 ∧
    t.mon.acc[(0 : StreamId)].counts.drain = 1 ∧ t.mon.acc[(0 : StreamId)].counts.peak = 1 ∧
    t.mon.acc[(0 : StreamId)].counts.late = 1 ∧ t.mon.acc[(1 : StreamId)] = Acc.zero := by decide

theorem test_witness_DownstreamReset : passing.Running := by decide

theorem test_witness_LinkTransfers :
    State.reset.Running ∧ (0x5A : BitVec 7).toNat = 0x5A + State.reset.link.straps.toNat ∧
    (0x5B : BitVec 7).toNat ≠ 0x5A + State.reset.link.straps.toNat ∧ (linkAt .read 0 0 State.reset).link.state ≠ .idle ∧
    State.reset.link.state = .idle := by decide

/-- The places of a page: a staged byte field, the bytes of a two-byte field, a reserved place, another page, and the end. -/
theorem test_witness_WrittenBytes :
    (linkAt .writePage 0 0 State.reset).Running ∧ (linkAt .writeData 1 255 State.reset).link.offset < 256 ∧
    256 ≤ (linkAt .writeData 1 256 State.reset).link.offset ∧ isStagedPage 0x03 = false ∧ isStagedPage 0x23 = true ∧
    stagedPlace 0x11 0x80 = none ∧ stagedPlace 0x01 0x04 = some (.global, 4) ∧
    (settingsField .global 0x16).isNone = true ∧ (settingsField .global 0x00).map (·.len) = some 1 ∧
    (settingsField .global 0x04).map (fun f => (f.off, f.len)) = some (4, 2) ∧
    (settingsField .global 0x05).map (fun f => 5 - f.off + 1) = some 2 := by decide

/-- The places of the pages that are not staged: a command's arrival, the arguments, the alert hold, the masks, and the places beside
them, where a byte changes nothing. -/
theorem test_witness_WrittenBytes_live_pages :
    let s (page : Byte) (off : Nat) := linkAt .writeData page off State.reset
    (∀ page : Fin 2, isStagedPage (0x03 + page.val) = false ∧ (s (BitVec.ofNat 8 (0x03 + page.val)) 255).Running) ∧
    (∀ off ∈ [0x04, 0x0F, 0x11], ¬ (off ≤ 0x03 ∨ off = 0x10)) ∧ (∀ off ∈ [0x1F, 0x31], ¬ (0x20 ≤ off ∧ off ≤ 0x30)) ∧
    (after (.writeByte 0x02) (s 0x03 0x00)).cfg.slot.code = 0x02 ∧
    (after (.writeByte 0xA5) (s 0x03 0x03)).cfg.reqArgs[(2 : Fin 3)] = 0xA5 ∧
    (after (.writeByte 0x01) (s 0x03 0x10)).alm.hold = true ∧
    (after (.writeByte 0x15) (s 0x04 0x2F)).alm.mask[(15 : StreamId)] = 0x15 ∧
    (after (.writeByte 0x15) (s 0x04 0x30)).alm.globalMask = 0x15 ∧
    (after (.writeByte 0x15) (s 0x04 0x31)).alm = State.reset.alm := by decide

/-- The bytes of a field: one that was written, and one that keeps its present value. -/
theorem test_merged_bytes : mergeBytes [(1, 0x12)] 0xABCD 2 = 0x12CD ∧ mergeBytes [] 0xABCD 2 = 0xABCD := by decide

theorem test_witness_ReadBytes :
    (linkAt .read 0 0 State.reset).Running ∧ (linkAt .read 0 0 State.reset).link.state = .read ∧
    (linkAt .read 0 0 State.reset).link.readEnded = false ∧ fieldOf State.reset 0x00 0x04 = none ∧
    fieldOf State.reset 0x00 0x00 = some ⟨0, 2, 0x01A0⟩ ∧ fieldOf State.reset 0x00 0x01 = some ⟨0, 2, 0x01A0⟩ ∧
    fieldOf State.reset 0x00 0x02 = some ⟨2, 1, 1⟩ ∧ 256 ≤ (linkAt .read 0 256 State.reset).link.offset ∧
    (after (.readByte false true) (linkAt .read 0 0 State.reset)).link.readLatch = some ⟨0, 0, 0x01A0⟩ ∧
    State.reset.link.readLatch = none := by decide

/-- The first and the last places of the live pages, reserved places beside them, and pages that the map does not name. -/
theorem test_live_pages_read :
    let s := { withPending 0x01 (withEntry 47 (.active { flight 9 with kind := .write, beats := 16 } none)
      (atTime 399 regulating)) with accounts := putAt regulating.accounts 15 { balance := -256, starved := false } }
    fieldOf s 0x00 0x17 = some ⟨0x17, 1, 0⟩ ∧ fieldOf s 0x00 0x18 = none ∧ fieldOf s 0x03 0x08 = some ⟨0x08, 1, 1⟩ ∧
    fieldOf s 0x03 0x0B = some ⟨0x0B, 1, 0⟩ ∧ fieldOf s 0x03 0x0C = some ⟨0x0C, 1, 1⟩ ∧ fieldOf s 0x03 0x11 = none ∧
    fieldOf s 0x04 0x2F = some ⟨0x2F, 1, 0x3F⟩ ∧ fieldOf s 0x04 0x31 = none ∧ fieldOf s 0x04 0x50 = some ⟨0x50, 1, 0⟩ ∧
    fieldOf s 0x2B 0xC7 = some ⟨0xC4, 4, 0xFFFFFF00⟩ ∧ fieldOf s 0x2B 0xCB = none ∧ fieldOf s 0x33 0xFD = some ⟨0xFC, 2, 0⟩ ∧
    fieldOf s 0x33 0xFE = none ∧ fieldOf s 0x34 0x4B = some ⟨0x48, 4, 0⟩ ∧ fieldOf s 0x34 0x4C = none ∧
    fieldOf s 0x41 0x79 = some ⟨0x79, 1, 0xC5⟩ ∧ fieldOf s 0x41 0x7B = some ⟨0x7B, 1, 0xF0⟩ ∧
    fieldOf s 0x41 0x7F = some ⟨0x7C, 4, 3⟩ ∧ fieldOf s 0x41 0x80 = none ∧
    ∀ page ∈ [0x05, 0x0F, 0x14, 0x1F, 0x2C, 0x2F, 0x35, 0x3F, 0x42, 0xFF], fieldOf s page 0 = none := by decide

/-- The result and detail codes after a COMMIT that fails at a window, and after RESET#. -/
theorem test_command_page_codes :
    let bad : State := withStaged (fun c => { c with windows := modAt c.windows 23 fun w => { w with permission := 4 } }) State.reset
    let s := after .commit bad
    (fieldOf s 0x03 0x0C).map (·.value) = some 3 ∧ (fieldOf s 0x03 0x0D).map (·.value) = some 0x10 ∧
    (fieldOf s 0x03 0x0E).map (·.value) = some 0x37 ∧ (fieldOf State.reset 0x03 0x0D).map (·.value) = some 0 := by decide

/-- The first and the last places of the configuration pages, and reserved places between and after them. -/
theorem test_configuration_pages_read :
    let s := State.reset
    fieldOf s 0x01 0x00 = some ⟨0x00, 1, 0⟩ ∧ fieldOf s 0x02 0x15 = some ⟨0x14, 2, 0⟩ ∧ fieldOf s 0x01 0x16 = none ∧
    fieldOf s 0x10 0x03 = none ∧ fieldOf s 0x11 0x7F = some ⟨0x7C, 4, 0⟩ ∧ fieldOf s 0x13 0x80 = none ∧
    fieldOf s 0x23 0xE3 = some ⟨0xE2, 2, 0⟩ ∧ fieldOf s 0x27 0xE4 = none ∧ stagedPlace 0x23 0xE3 = some (.stream 15, 0x23) := by
  decide

/-- A write at the last place of each staged page, at reserved places, and at the state request of a RETIRING stream. -/
theorem test_configuration_pages_write :
    let staged (page off : Byte) (v : BitVec 32) (s : State) := (after (.stagedWrite page off v) s).cfg.staged
    (staged 0x01 0x14 7 State.reset).global.criticalRelease = 7 ∧ staged 0x01 0x16 7 State.reset = State.reset.cfg.staged ∧
    (staged 0x11 0x7C 7 State.reset).windows[(23 : WindowId)].limit = 7 ∧
    staged 0x11 0x80 7 State.reset = State.reset.cfg.staged ∧
    (staged 0x23 0xE2 7 State.reset).streams[(15 : StreamId)].latencyRelease = 7 ∧
    staged 0x23 0xFF 7 State.reset = State.reset.cfg.staged ∧
    staged 0x20 0x00 0 (withStreamState 0 .retiring State.reset) = State.reset.cfg.staged := by decide

theorem test_witness_CompletedWrites :
    State.reset.Running ∧ stagedPlace (0x11 : Byte).toNat (0x80 : Byte).toNat = none ∧
    stagedPlace (0x20 : Byte).toNat (0x00 : Byte).toNat = some (.stream 0, 0) ∧
    (settingsField (.stream 0) 0).map (·.off) = some 0 ∧ (settingsField (.stream 0) 0x24).isNone = true ∧
    (withPending 0x01 State.reset).pendingCode 0x01 = true ∧ State.reset.pendingCode 0x01 = false ∧
    (withStreamState 0 .retiring State.reset).cfg.streamState[(0 : StreamId)] = .retiring := by decide

theorem test_witness_CommitTaken :
    State.reset.Running ∧ State.reset.cfg.slot.state ≠ .pending ∧ staticFailure State.reset.cfg.staged = none ∧
    staticFailure (stageStream (fun r => { r with maxSlots := 65 }) State.reset.cfg.staged) = some (.range, .stream 0) := by
  decide

/-- The first failing check decides, and its first failing place: range before order, the global settings before the streams. -/
theorem test_static_checks_in_order :
    let c := State.reset.cfg.staged
    let bad := { c with streams := mapAll c.streams fun k r => if k = 3 ∨ k = 5 then { r with floor := 4096, configured := 0 } else r }
    staticFailure bad = some (.rateOrder, .stream 3) ∧
    staticFailure (stageStream (fun r => { r with maxSlots := 0 }) bad) = some (.range, .stream 0) ∧
    staticFailure { bad with global := { bad.global with stallTimeout := 0 } } = some (.range, .global) := by decide

theorem test_witness_RevertAndAck :
    State.reset.Running ∧ State.reset.cfg.slot.state ≠ .pending ∧
    (State.reset.cfg.reqArgs[(2 : Fin 3)]).getLsbD 7 = false ∧
    ((withArg2 0x80 State.reset).cfg.reqArgs[(2 : Fin 3)]).getLsbD 7 = true := by decide

/-- The STREAM form names stream 8 + n by bit n of argument 1: stream 8 here, and not stream 0. -/
theorem test_ack_names_streams :
    let s : State := { State.reset with
      alm := { State.reset.alm with status := Vector.replicate 16 0x20 }
      cfg := { State.reset.cfg with reqArgs := putAt (putAt State.reset.cfg.reqArgs 1 0x01) 2 0x20 } }
    (after .ack s).alm.status[(8 : StreamId)] = 0 ∧ (after .ack s).alm.status[(0 : StreamId)] = 0x20 := by decide

theorem test_witness_RetireTaken :
    let s := withArg 15 (withStreamState 15 .on regulating)
    regulating.Running ∧ regulating.cfg.slot.state ≠ .pending ∧ 15 < ((withArg 16 regulating).cfg.reqArgs[(0 : Fin 3)]).toNat ∧
    (s.cfg.reqArgs[(0 : Fin 3)]).toNat = (15 : StreamId).val ∧ s.cfg.streamState[(15 : StreamId)] = .on ∧
    s.cfg.regime = .regulate ∧ (withArg 15 regulating).cfg.streamState[(15 : StreamId)] ≠ .on ∧
    passing.cfg.streamState[(0 : StreamId)] = .on ∧ passing.cfg.regime ≠ .regulate ∧
    (withStage (.waitSlot (rd 1 0x1000 1) true 15 0) s).stage = .waitSlot (rd 1 0x1000 1) true 15 0 ∧
    s.stage = .empty := by decide

theorem test_witness_RestartTaken : State.reset.Running ∧ State.reset.cfg.slot.state ≠ .pending := by decide

theorem test_witness_CancelBusyUnknown :
    State.reset.Running ∧ (withPending 0x04 State.reset).cfg.slot.state = .pending ∧ State.reset.cfg.slot.state ≠ .pending ∧
    namesCommand 0x00 = false ∧ namesCommand 0x07 = false := by decide

/-! ### A busy state, reached by commands, that meets the invariants -/

/-- In REGULATE: one transaction in flight, one held and one in the tag map, as two requests and a grant leave it; ISSUE waits. -/
def busy : State :=
  { after (.requestTaken (rd 2 0x2000 2)) (after .issue (after (.requestTaken (rd 1 0x1000 1)) regulating)) with
    pending := [.issue] }

theorem test_busy_holds_traffic :
    busy.pool.length = 1 ∧ busy.tagMap.length = 2 ∧ busy.table[(0 : EntryId)].resident.isSome = true ∧
    busy.accounts[(0 : StreamId)].balance = -16 := by decide

theorem test_busy_steps : ∃ t, step busy = .next t := ⟨_, rfl⟩

/-- `busy` with everything in it that the invariants of O49 to O51 and O53 to O56 and O58 speak of. -/
theorem test_witness_ListInvariant_and_others :
    busy.ListSound ∧ busy.ConfigSound ∧ busy.BalancesSound ∧ busy.SlotsSound ∧ busy.ResetSound ∧ busy.RatesSound ∧
    busy.LevelsSound ∧ busy.StarvedSound := by decide

theorem test_witness_ConfigurationInvariant : busy.StreamsSound := by decide

theorem test_witness_BalanceInvariant : busy.RequestsSound := ⟨trivial, by decide⟩

theorem test_witness_GuardInvariant : guardsSound [] busy.pool := ⟨by decide, trivial⟩

theorem test_witness_RegimeInvariant : busy.RegimeSound := ⟨by decide, by decide, trivial⟩

theorem test_witness_TagMapInvariant : busy.TagsSound ∧ busy.OffersSound ∧ busy.stage.registeredWait := by
  refine ⟨⟨?_, by decide⟩, ⟨?_, by decide⟩, trivial⟩
  · decide
  · intro o h
    have : busy.offers = [] := by decide
    rw [this] at h
    exact absurd h (List.not_mem_nil)

theorem test_witness_HeldResponseInvariant : busy.HeldResponseSound := by
  have h : ∀ n : EntryId, (busy.table[n]).heldResponse = none := by decide
  intro n t l e
  have := h n
  rw [e] at this
  exact absurd this (by simp [Entry.heldResponse])

end Sys2Proof.Machine.Tests
end

