-- ==== Sys2Proof/Proofs/WindowLookup.lean ====
section
/-! The window lookup (R31 to R37): when a window matches, which match decides, and what a miss does. -/

namespace Sys2Proof.Machine.Classification

/-! ### When a window matches (R31) -/

/-- The page-of-memory number is the address by pages of 4,096 bytes (R30). -/
theorem pageOf_eq (r : Request) : pageOf r = r.address.toNat / 4096 := rfl

/-- The three conditions of R31: the window is valid, it spans the request's page of memory, and it spans its initiator when
it matches on a range. -/
theorem windowMatches_iff (w : WindowEntry) (r : Request) : windowMatches w r = true ↔
    w.valid = true ∧ (w.base.toNat ≤ r.address.toNat / 4096 ∧ r.address.toNat / 4096 ≤ w.limit.toNat) ∧
      (w.matchRange = false ∨ (w.low.toNat ≤ r.initiator.val ∧ r.initiator.val ≤ w.high.toNat)) := by
  rw [← pageOf_eq]
  simp [windowMatches, and_assoc]

/-- Matching reads neither the permission of the window nor the kind and the beat count of the request (R31). -/
theorem windowMatches_permission_kind_beats (w : WindowEntry) (r : Request) (permission : Byte) (kind : Kind)
    (beats : Fin 32) :
    windowMatches { w with permission := permission } { r with kind := kind, beats := beats } = windowMatches w r := by
  rw [Bool.eq_iff_iff, windowMatches_iff, windowMatches_iff]

/-! ### The lookup and the classification (R10, R32, R36, R37) -/

/-- The lowest-numbered match is the hit (R32). -/
theorem lookup_of_lowest_match {c : Settings} {r : Request} {n : WindowId}
    (hit : windowMatches c.windows[n] r = true)
    (lowest : ∀ m : WindowId, m < n → windowMatches c.windows[m] r = false) :
    lookup c r = some c.windows[n] := by
  refine List.find?_eq_some_iff_getElem.mpr ⟨hit, n.val, by simp, by simp, fun m hm => ?_⟩
  have below : windowMatches c.windows[m] r = false := lowest ⟨m, hm.trans n.isLt⟩ hm
  simp [below]

/-- There is no hit when no window matches. -/
theorem lookup_of_no_match {c : Settings} {r : Request}
    (miss : ∀ n : WindowId, windowMatches c.windows[n] r = false) : lookup c r = none := by
  refine List.find?_eq_none.mpr fun w hw => ?_
  obtain ⟨n, hn, rfl⟩ := Vector.mem_iff_getElem.mp (Vector.mem_toList_iff.mp hw)
  have none_here : windowMatches c.windows[n] r = false := miss ⟨n, hn⟩
  simp [none_here]

/-- A hit gives the stream of its window, and whether its permission allows the kind (R32, R33). -/
theorem classify_of_hit {c : Settings} {r : Request} {w : WindowEntry} (hit : lookup c r = some w) :
    classify c r = (streamNamed w.stream, allows w.permission r.kind) := by
  simp [classify, hit]

/-- A miss gives the miss stream, and proceeds unless the miss policy is DENY (R36, R37). -/
theorem classify_of_miss {c : Settings} {r : Request} (miss : lookup c r = none) :
    classify c r = (streamNamed c.global.missStream, decide (c.global.missPolicy ≠ 1)) := by
  simp [classify, miss, missDenies, Bool.beq_eq_decide_eq]

/-- The permission table (R33): NONE, READ, WRITE, READ_WRITE. -/
theorem allows_table (kind : Kind) : allows 0 kind = false ∧ allows 1 kind = decide (kind = .read) ∧
    allows 2 kind = decide (kind = .write) ∧ allows 3 kind = true := by
  cases kind <;> decide

/-- Settles O8, from the conditions of R31 and the two cases of the lookup: a lowest-numbered match, or none. -/
theorem windowLookup : Obligations.WindowLookup :=
  ⟨windowMatches_iff, windowMatches_permission_kind_beats,
    fun _ _ => ⟨fun _ hit lowest => classify_of_hit (lookup_of_lowest_match hit lowest),
      fun miss => classify_of_miss (lookup_of_no_match miss)⟩,
    allows_table⟩

end Sys2Proof.Machine.Classification
end

