-- ==== Sys2Proof/Proofs/StaticChecks.lean ====
section
/-! COMMIT and the ten static checks (R181, R183, R185): each check as the comparison that the manual states, the checks as one
list of tests in the order of R183, and the command that they decide. -/

namespace Sys2Proof.Machine.StaticChecks

/-! ### The checks as comparisons (R29, R44, R176, R183) -/

/-- The ranges of the global settings (R176). -/
theorem globalInRange_eq (g : GlobalSettings) : globalInRange g = decide (
    g.regimeRequest.toNat ≤ 1 ∧ g.missPolicy.toNat ≤ 1 ∧ g.missStream.toNat ≤ 15 ∧
    (1 ≤ g.hotFilter.toNat ∧ g.hotFilter.toNat ≤ 4) ∧ (1 ≤ g.epochLength.toNat ∧ g.epochLength.toNat ≤ 1000) ∧
    (1 ≤ g.refillPeriod.toNat ∧ g.refillPeriod.toNat ≤ 64) ∧ 1 ≤ g.missCount.toNat ∧ 1 ≤ g.stallTimeout.toNat ∧
    16 ≤ g.responseTimeout.toNat ∧ (-100 ≤ g.latencyOffset.toInt ∧ g.latencyOffset.toInt ≤ 100) ∧
    (1 ≤ g.quarantineThreshold.toNat ∧ g.quarantineThreshold.toNat ≤ 48)) := by
  simp only [globalInRange, Bool.decide_and, Bool.and_assoc]

/-- The ranges of a stream record (R44). -/
theorem streamInRange_eq (r : StreamRecord) : streamInRange r = decide (
    r.stateRequest.toNat ≤ 1 ∧ r.cls.toNat ≤ 2 ∧
    (1 ≤ r.weight.toNat ∧ r.weight.toNat ≤ 15) ∧ r.mode.toNat ≤ 2 ∧ r.configured.toNat ≤ 4096 ∧ r.floor.toNat ≤ 4096 ∧
    r.maxRate.toNat ≤ 4096 ∧ (1 ≤ r.step.toNat ∧ r.step.toNat ≤ 1024) ∧
    (256 ≤ r.ceiling.toNat ∧ r.ceiling.toNat ≤ 1048576 ∧ r.ceiling.toNat % 256 = 0) ∧ r.reserved.toNat ≤ 8 ∧
    (1 ≤ r.maxSlots.toNat ∧ r.maxSlots.toNat ≤ 64) ∧ r.overflow.toNat ≤ 1 ∧
    (1 ≤ r.faultCount.toNat ∧ r.faultCount.toNat ≤ 4) ∧ r.rateMode.toNat ≤ 2 ∧ r.latencyMode.toNat ≤ 2) := by
  simp only [streamInRange, Bool.decide_and, Bool.and_assoc, Bool.beq_eq_decide_eq]

/-- The ranges of a window entry (R29). -/
theorem windowInRange_eq (w : WindowEntry) : windowInRange w = decide (
    w.stream.toNat ≤ 15 ∧ w.permission.toNat ≤ 3 ∧ w.low.toNat ≤ 63 ∧ w.high.toNat ≤ 63 ∧
    w.base.toNat ≤ 0x0FFFFFFF ∧ w.limit.toNat ≤ 0x0FFFFFFF) := by
  simp only [windowInRange, Bool.decide_and, Bool.and_assoc]

/-- Order 2 of R183. -/
theorem rateOrdered_eq (r : StreamRecord) :
    rateOrdered r = decide (r.floor.toNat ≤ r.configured.toNat ∧ r.configured.toNat ≤ r.maxRate.toNat) := by
  simp only [rateOrdered, Bool.decide_and]

/-- Order 3 of R183. -/
theorem slotOrdered_eq (r : StreamRecord) : slotOrdered r = decide (r.reserved.toNat ≤ r.maxSlots.toNat) := rfl

/-- Order 4 of R183, with the reserved total of R64. -/
theorem reserveSum_eq (c : Settings) : decide (reservedTotal c ≤ Config.holdSlots) =
    decide (((List.finRange 16).map fun k => c.streams[k].reserved.toNat).sum ≤ 64) := rfl

/-- Order 5 of R183. -/
theorem rateLimitsOrdered_eq (r : StreamRecord) : rateLimitsOrdered r =
    decide (r.rateLow.toNat = 0 ∨ r.rateHigh.toNat = 0 ∨ r.rateLow.toNat ≤ r.rateHigh.toNat) := by
  rw [Bool.eq_iff_iff]
  simp [rateLimitsOrdered, or_assoc]

/-- Order 6 of R183. -/
theorem latencyLimitsOrdered_eq (r : StreamRecord) :
    latencyLimitsOrdered r = decide (r.latencyRelease.toNat ≤ r.latencyOver.toNat) := rfl

/-- Order 8 of R183. -/
theorem windowFormed_eq (w : WindowEntry) : windowFormed w = decide (w.valid = true →
    w.base.toNat ≤ w.limit.toNat ∧ (w.matchRange = true → w.low.toNat ≤ w.high.toNat)) := by
  rw [Bool.eq_iff_iff]
  simp [windowFormed, imp_iff_not_or]

/-- Order 9 of R183. -/
theorem windowStreamOn_eq (c : Settings) (w : WindowEntry) : windowStreamOn c w =
    decide (w.valid = true → (c.streams[Fin.ofNat 16 w.stream.toNat]).stateRequest = 1) := by
  rw [Bool.eq_iff_iff]
  simp [windowStreamOn, requestsOn, streamNamed, imp_iff_not_or]

/-- Order 10 of R183. -/
theorem missStreamOn_eq (c : Settings) : missStreamOn c = decide (c.global.missPolicy ≠ 1 →
    (c.streams[Fin.ofNat 16 c.global.missStream.toNat]).stateRequest = 1) := by
  rw [Bool.eq_iff_iff]
  simp [missStreamOn, missDenies, requestsOn, streamNamed, imp_iff_not_or]

/-! ### The checks as a list of tests -/

/-- One test of a static check: the code of its check, the place it looks at, and whether it passes. -/
abbrev Test := Result × Detail × Bool

/-- The test of a check on the global settings. -/
def globalTest (code : Result) (ok : Bool) : List Test := [(code, .global, ok)]

/-- The tests of a check on the stream records, in ascending order of the streams. -/
def streamTests (c : Settings) (code : Result) (ok : StreamRecord → Bool) : List Test :=
  allStreams.map fun k => (code, .stream k, ok c.streams[k])

/-- The tests of a check on the windows, in ascending order of the windows. -/
def windowTests (c : Settings) (code : Result) (ok : WindowEntry → Bool) : List Test :=
  allWindows.map fun n => (code, .window n, ok c.windows[n])

/-- Every test of the ten static checks, in the order of R183. -/
def allTests (c : Settings) : List Test :=
  globalTest .range (globalInRange c.global) ++ streamTests c .range streamInRange ++
  windowTests c .range windowInRange ++ streamTests c .rateOrder rateOrdered ++ streamTests c .slotOrder slotOrdered ++
  globalTest .reserveSum (decide (reservedTotal c ≤ Config.holdSlots)) ++ streamTests c .rateLimits rateLimitsOrdered ++
  streamTests c .latencyLimits latencyLimitsOrdered ++
  globalTest .criticalOrder (decide (c.global.criticalRelease.toNat ≤ c.global.criticalLimit.toNat)) ++
  windowTests c .windowForm windowFormed ++ windowTests c .windowStream (windowStreamOn c) ++
  globalTest .missStream (missStreamOn c)

/-- The code and the place of the first test that fails. -/
def firstFailing (tests : List Test) : Option (Result × Detail) :=
  (tests.find? fun t => !t.2.2).map fun t => (t.1, t.2.1)

theorem firstFailing_append (l m : List Test) : firstFailing (l ++ m) = (firstFailing l).or (firstFailing m) := by
  simp [firstFailing, List.find?_append, Option.map_or]

theorem firstFailing_eq_none (l : List Test) : firstFailing l = none ↔ ∀ t ∈ l, t.2.2 = true := by
  simp only [firstFailing, Option.map_eq_none_iff, List.find?_eq_none, Bool.not_eq_true', Bool.not_eq_false]

theorem firstFailing_globalTest (code : Result) (ok : Bool) :
    firstFailing (globalTest code ok) = (globalPlace ok).map (code, ·) := by
  cases ok <;> rfl

theorem firstFailing_streamTests (c : Settings) (code : Result) (ok : StreamRecord → Bool) :
    firstFailing (streamTests c code ok) = (firstStream c ok).map (code, ·) := by
  simp [firstFailing, streamTests, firstStream, List.find?_map, Option.map_map, Function.comp_def]

theorem firstFailing_windowTests (c : Settings) (code : Result) (ok : WindowEntry → Bool) :
    firstFailing (windowTests c code ok) = (firstWindow c ok).map (code, ·) := by
  simp [firstFailing, windowTests, firstWindow, List.find?_map, Option.map_map, Function.comp_def]

/-- A search of a list answers for its head, or else goes on in its tail. -/
theorem findSome?_cons_or {α β : Type} (f : α → Option β) (x : α) (l : List α) :
    (x :: l).findSome? f = (f x).or (l.findSome? f) := by
  rw [List.findSome?_cons]
  cases f x <;> rfl

/-- The first place of the first failing check is the first failing test (R183). -/
theorem staticFailure_eq_firstFailing (c : Settings) : staticFailure c = firstFailing (allTests c) := by
  simp only [staticFailure, staticChecks, allTests, findSome?_cons_or, List.findSome?_nil, firstFailing_append,
    firstFailing_globalTest, firstFailing_streamTests, firstFailing_windowTests, Option.map_or, Option.or_assoc,
    Option.or_none]

/-! ### When every check passes -/

theorem forall_globalTest (code : Result) (ok : Bool) : (∀ t ∈ globalTest code ok, t.2.2 = true) ↔ ok = true := by
  simp [globalTest]

theorem forall_streamTests (c : Settings) (code : Result) (ok : StreamRecord → Bool) :
    (∀ t ∈ streamTests c code ok, t.2.2 = true) ↔ ∀ k : StreamId, ok c.streams[k] = true := by
  simp [streamTests, allStreams]

theorem forall_windowTests (c : Settings) (code : Result) (ok : WindowEntry → Bool) :
    (∀ t ∈ windowTests c code ok, t.2.2 = true) ↔ ∀ n : WindowId, ok c.windows[n] = true := by
  simp [windowTests, allWindows]

/-- Order 5 of R183 as a condition on two limits that are both on. -/
theorem rateLimitsOrdered_iff (r : StreamRecord) : rateLimitsOrdered r = true ↔
    (r.rateLow.toNat ≠ 0 → r.rateHigh.toNat ≠ 0 → r.rateLow.toNat ≤ r.rateHigh.toNat) := by
  rw [rateLimitsOrdered_eq, decide_eq_true_iff]
  tauto

/-- Orders 8 and 9 of R183 together: what a valid window must meet. -/
theorem windowFormed_and_streamOn (c : Settings) (w : WindowEntry) :
    windowFormed w = true ∧ windowStreamOn c w = true ↔ (w.valid = true →
      w.base.toNat ≤ w.limit.toNat ∧ (w.matchRange = true → w.low.toNat ≤ w.high.toNat) ∧
      requestsOn c.streams[streamNamed w.stream] = true) := by
  rw [windowFormed_eq, decide_eq_true_iff]
  cases hv : w.valid <;> simp [windowStreamOn, hv, and_assoc]

theorem missStreamOn_iff (c : Settings) : missStreamOn c = true ↔
    (c.global.missPolicy ≠ 1 → requestsOn c.streams[streamNamed c.global.missStream] = true) := by
  simp [missStreamOn, missDenies, imp_iff_not_or]

/-- A copy passes when every test of every check does. -/
theorem staticFailure_eq_none_iff (c : Settings) : staticFailure c = none ↔
    globalInRange c.global = true ∧ (∀ k : StreamId, streamInRange c.streams[k] = true) ∧
    (∀ n : WindowId, windowInRange c.windows[n] = true) ∧ (∀ k : StreamId, rateOrdered c.streams[k] = true) ∧
    (∀ k : StreamId, slotOrdered c.streams[k] = true) ∧ reservedTotal c ≤ Config.holdSlots ∧
    (∀ k : StreamId, rateLimitsOrdered c.streams[k] = true) ∧
    (∀ k : StreamId, latencyLimitsOrdered c.streams[k] = true) ∧
    c.global.criticalRelease.toNat ≤ c.global.criticalLimit.toNat ∧
    (∀ n : WindowId, windowFormed c.windows[n] = true ∧ windowStreamOn c c.windows[n] = true) ∧
    missStreamOn c = true := by
  simp only [staticFailure_eq_firstFailing, firstFailing_eq_none, allTests, List.forall_mem_append, forall_globalTest,
    forall_streamTests, forall_windowTests, forall_and, decide_eq_true_iff, and_assoc]

/-! ### The command (R181, R183, R185) -/

/-- COMMIT on a running device with no command PENDING is taken and carried out (R181). -/
theorem exec_commit_taken {s : State} (running : s.Running) (idle : s.cfg.slot.state ≠ .pending) :
    exec .commit s = .next (actCommit (takeCode 0x01 s)) := by
  calc exec .commit s = .next (whileRunning takeCommit s) := rfl
    _ = .next (takeCommit s) := by rw [whileRunning_running running]
    _ = .next (actCommit (takeCode 0x01 s)) := by simp [takeCommit, arriveAs, State.slotPending, idle]

/-- A check that fails refuses the COMMIT with its code and place (R183). -/
theorem actCommit_of_failure {s : State} {code : Result} {place : Detail}
    (failure : staticFailure s.cfg.staged = some (code, place)) :
    actCommit s = finishCommand .refused code place s := by
  unfold actCommit
  rw [failure]

/-- A COMMIT that passes the checks becomes PENDING (R183). -/
theorem actCommit_of_pass {s : State} (pass : staticFailure s.cfg.staged = none) : actCommit s = becomePending s := by
  unfold actCommit
  rw [pass]

/-- Settles O43: the command by what its checks answer, and the checks by the list of their tests. -/
theorem commitTaken : Obligations.CommitTaken := by
  refine ⟨fun s running idle => ⟨fun code place failure => ?refused, fun pass => ?pending⟩, fun c => ?passes, fun c => ?order⟩
  case refused => rw [exec_commit_taken running idle, actCommit_of_failure (s := takeCode 0x01 s) failure]; rfl
  case pending => rw [exec_commit_taken running idle, actCommit_of_pass (s := takeCode 0x01 s) pass]; rfl
  case passes =>
    simp only [staticFailure_eq_none_iff, rateOrdered_eq, slotOrdered_eq, latencyLimitsOrdered_eq, decide_eq_true_iff,
      rateLimitsOrdered_iff, windowFormed_and_streamOn, missStreamOn_iff, Config.holdSlots]
  case order =>
    simp only [staticFailure_eq_firstFailing, firstFailing, allTests, globalTest, streamTests, windowTests, allStreams,
      allWindows, globalInRange_eq, streamInRange_eq, windowInRange_eq, rateOrdered_eq, slotOrdered_eq, reserveSum_eq,
      rateLimitsOrdered_eq, latencyLimitsOrdered_eq, windowFormed_eq, windowStreamOn_eq, missStreamOn_eq]

end Sys2Proof.Machine.StaticChecks
end

/-! The streams and their accounts. What follows an event (R56, R109), what every command keeps of the configuration, of the
starved flags and of the in-flight table (R46, R55, R56, R174, R175, R184), and the events of the budget: the issue (R54, R98),
the refill tick (R52) and the accounts and rates after a commit (R48, R50, R57, R59, R60, R150 to R155). -/

namespace Sys2Proof.Machine.StreamAccounts

/-! ### What follows an event (R56, R63, R109) -/

/-- A stream is not PROTECTED when its class is another one (R47). -/
theorem isProtected_eq_false_iff (s : State) (k : StreamId) : s.isProtected k = false ↔ classOf (s.record k) ≠ .prot := by
  simp [State.isProtected]

/-- Some entry is FREE (R92). -/
theorem firstFree_isSome_iff (s : State) : s.firstFree.isSome = true ↔ ∃ n : EntryId, s.table[n] = .free := by
  simp [State.firstFree, allEntries, isFree_iff]

/-- The conditions of R56, one by one. -/
theorem starving_iff (s : State) (k : StreamId) : s.starving k = true ↔
    s.cfg.regime = .regulate ∧ classOf (s.record k) ≠ .prot ∧ s.accounts[k].balance < 0 ∧ s.CanIssue ∧
      (∃ n : EntryId, s.table[n] = .free) ∧ ∃ h, s.queueHead k = some h ∧ h.guards = 0 := by
  rw [← isProtected_eq_false_iff, ← portOpen_iff, ← firstFree_isSome_iff]
  unfold State.starving
  cases s.queueHead k <;> simp [and_assoc]

/-- The conditions of R56 read the regime, the class, the balance, the port, the table and the pool, and nothing else. -/
theorem starving_congr {s t : State} {k : StreamId} (regime : t.cfg.regime = s.cfg.regime)
    (cls : t.isProtected k = s.isProtected k) (balance : t.accounts[k].balance = s.accounts[k].balance)
    (port : t.portOpen = s.portOpen) (table : t.table = s.table) (pool : t.pool = s.pool) :
    t.starving k = s.starving k := by
  simp only [State.starving, State.firstFree, State.queueHead, regime, cls, balance, port, table, pool]

theorem markStarved_account (s : State) (k : StreamId) : (markStarved s).accounts[k] =
    if s.starving k then { s.accounts[k] with starved := true } else s.accounts[k] := by
  unfold markStarved
  rw [mapAll_get]

/-- Marking moves no balance, so it changes none of the conditions it reads. -/
theorem markStarved_starving (s : State) (k : StreamId) : (markStarved s).starving k = s.starving k := by
  refine starving_congr (by simp) rfl ?_ rfl (by simp) (by simp)
  rw [markStarved_account]
  split <;> rfl

/-- After marking, every starving stream has its flag set (R56). -/
theorem markStarved_starvedSound (s : State) : (markStarved s).StarvedSound := fun k starves => by
  rw [markStarved_starving] at starves
  rw [markStarved_account, if_pos starves]

theorem raiseQuarantine_starving (a b : State) (k : StreamId) : (raiseQuarantine a b).starving k = b.starving k :=
  starving_congr (by simp) (by simp [State.isProtected, State.record]) (by simp) (by simp [State.portOpen]) (by simp) (by simp)

theorem finish_starving (a b : State) (k : StreamId) : (finish a b).starving k = b.starving k := by
  rw [finish, markStarved_starving, raiseQuarantine_starving]

theorem finish_account (a b : State) (k : StreamId) : (finish a b).accounts[k] =
    if b.starving k then { b.accounts[k] with starved := true } else b.accounts[k] := by
  rw [finish, markStarved_account, raiseQuarantine_starving]
  simp only [raiseQuarantine_frame]

theorem finish_starvedSound (a b : State) : (finish a b).StarvedSound := markStarved_starvedSound _

/-- QUARANTINE is raised at the upward crossing and at no other event (R109). -/
theorem finish_globalStatus (a b : State) : (finish a b).alm.globalStatus =
    if a.quarantineCount < a.settings.quarantineThreshold.toNat ∧ b.settings.quarantineThreshold.toNat ≤ b.quarantineCount
      then b.alm.globalStatus ||| 0x08 else b.alm.globalStatus := by
  have crossing : (!a.quarantineHigh && b.quarantineHigh) = true ↔
      a.quarantineCount < a.settings.quarantineThreshold.toNat ∧
        b.settings.quarantineThreshold.toNat ≤ b.quarantineCount := by simp [State.quarantineHigh]
  simp only [finish, markStarved_frame, raiseQuarantine, crossing]
  split <;> rfl

/-- Beside the starved flags and QUARANTINE nothing follows an event. -/
theorem finish_changes (a b : State) : finish a b = { b with
    accounts := (finish a b).accounts
    alm := { b.alm with globalStatus := (finish a b).alm.globalStatus } } := by
  simp only [finish, raiseQuarantine]
  split <;> rfl

/-- The quarantine count is the number of QUARANTINED entries (R109). -/
theorem quarantineCount_eq (s : State) : s.quarantineCount = ((List.finRange 48).filter fun n => match s.table[n] with
    | .quarantined _ _ => true
    | _ => false).length := by
  rw [State.quarantineCount, allEntries, List.countP_eq_length_filter]
  refine congrArg List.length (List.filter_congr fun n _ => ?_)
  generalize s.table[n] = e
  cases e <;> rfl

/-- The queue head is the oldest WAITING transaction of its stream (R63). -/
theorem queueHead_eq (s : State) (k : StreamId) :
    s.queueHead k = (s.pool.filter fun h => decide (h.stream = k ∧ h.state = .waiting)).head? := by
  simp only [List.head?_filter, State.queueHead, Held.isWaiting, Bool.decide_and, Bool.beq_eq_decide_eq]

/-- Settles O5: the two parts of the epilogue, each by what it changes, and the two readings. -/
theorem eventEpilogue : Obligations.EventEpilogue :=
  ⟨fun a b => ⟨finish_account a b, finish_globalStatus a b, finish_changes a b⟩, starving_iff,
    fun s => ⟨quarantineCount_eq s, queueHead_eq s⟩⟩

/-! ### The sound configuration (R46, R174, R175, R181, R184) -/

/-- What O50 promises of a state: both copies checked where they must be, and the stream states in line with the active copy. -/
def Configured (s : State) : Prop := s.ConfigSound ∧ s.StreamsSound

/-- The promise reads the active copy, the stream states, the slot's state and code, and the staged copy of a PENDING COMMIT. -/
theorem Configured.congr {s t : State} (active : t.cfg.active = s.cfg.active)
    (streams : t.cfg.streamState = s.cfg.streamState) (state : t.cfg.slot.state = s.cfg.slot.state)
    (code : t.cfg.slot.code = s.cfg.slot.code) (staged : s.pendingCode 0x01 = true → t.cfg.staged = s.cfg.staged)
    (sound : Configured s) : Configured t := by
  have pending (c : Byte) : t.pendingCode c = s.pendingCode c := by simp only [State.pendingCode, state, code]
  obtain ⟨⟨checked, frozen⟩, inLine⟩ := sound
  refine ⟨⟨by rw [active]; exact checked, fun h => ?_⟩, ?_⟩
  · rw [pending] at h
    rw [staged h]
    exact frozen h
  · simpa only [State.StreamsSound, State.record, active, streams, pending] using inLine

/-- The active copy passes every static check (R174). -/
theorem Configured.checked {s : State} (sound : Configured s) : staticFailure s.cfg.active = none := by
  obtain ⟨⟨checked, _⟩, _⟩ := sound
  exact checked

/-- So does the staged copy of a PENDING COMMIT (R184). -/
theorem Configured.frozen {s : State} (sound : Configured s) (pending : s.pendingCode 0x01 = true) :
    staticFailure s.cfg.staged = none := by
  obtain ⟨⟨_, frozen⟩, _⟩ := sound
  exact frozen pending

/-- A stream that is not RETIRING is in the state it requests (R46, R175). -/
theorem Configured.requested {s : State} (sound : Configured s) {k : StreamId}
    (settled : s.cfg.streamState[k] ≠ .retiring) : s.cfg.streamState[k] = requestedState (s.record k) := by
  obtain ⟨_, inLine, _⟩ := sound
  have off := (inLine k).1
  unfold requestedState
  cases h : s.cfg.streamState[k] <;> simp_all

/-- An ON or RETIRING stream requests ON (R175). -/
theorem Configured.requestsOn {s : State} (sound : Configured s) {k : StreamId} (running : s.cfg.streamState[k] ≠ .off) :
    requestsOn (s.record k) = true := by
  obtain ⟨_, inLine, _⟩ := sound
  rwa [Ne, (inLine k).1, Bool.not_eq_false] at running

/-- With no RETIRE PENDING every stream is in the state it requests. -/
theorem Configured.settled {s : State} (sound : Configured s) (idle : s.pendingCode 0x04 = false) (k : StreamId) :
    s.cfg.streamState[k] = requestedState (s.record k) :=
  sound.requested fun retiring => by
    obtain ⟨_, inLine, _⟩ := sound
    exact Bool.false_ne_true (idle.symm.trans ((inLine k).2 retiring))

theorem requestedState_eq_off_iff (r : StreamRecord) : requestedState r = .off ↔ requestsOn r = false := by
  unfold requestedState
  cases requestsOn r <;> simp

theorem requestedState_ne_retiring (r : StreamRecord) : requestedState r ≠ .retiring := by
  unfold requestedState
  split <;> simp

/-- Streams in the states they request are in line with the active copy, and none is RETIRING. -/
theorem streamsSound_of_settled {s : State}
    (settled : ∀ k : StreamId, s.cfg.streamState[k] = requestedState (s.record k)) : s.StreamsSound := by
  refine ⟨fun k => ⟨?_, fun h => ?_⟩, fun j k h => ?_⟩
  · rw [settled, requestedState_eq_off_iff]
  · exact absurd (settled k ▸ h) (requestedState_ne_retiring _)
  · exact absurd (settled j ▸ h) (requestedState_ne_retiring _)

/-- With no command PENDING no code is. -/
theorem pendingCode_of_idle {s : State} (idle : s.cfg.slot.state ≠ .pending) (code : Byte) : s.pendingCode code = false := by
  simp [State.pendingCode, idle]

/-- With no command PENDING the promise is that the active copy is checked and every stream is in the state it requests. -/
theorem configured_of_settled {s : State} (idle : s.cfg.slot.state ≠ .pending)
    (checked : staticFailure s.cfg.active = none)
    (settled : ∀ k : StreamId, s.cfg.streamState[k] = requestedState (s.record k)) : Configured s := by
  refine ⟨⟨checked, fun h => ?_⟩, streamsSound_of_settled settled⟩
  simp [pendingCode_of_idle idle] at h

/-- The end of a command other than RETIRE, and the taking of one, keep the active copy and the stream states, and leave no
command PENDING. -/
theorem Configured.of_idle {s t : State} (before : s.pendingCode 0x04 = false) (after : t.cfg.slot.state ≠ .pending)
    (active : t.cfg.active = s.cfg.active) (streams : t.cfg.streamState = s.cfg.streamState) (sound : Configured s) :
    Configured t :=
  configured_of_settled after (by rw [active]; exact sound.checked) fun k => by
    simpa only [State.record, active, streams] using sound.settled before k

theorem powerOn_settled :
    ∀ k : StreamId, CfgUnit.powerOn.streamState[k] = requestedState CfgUnit.powerOn.active.streams[k] := by decide

/-- The power-on configuration is sound (R43, R44, R177). -/
theorem configured_powerOn {s : State} (power : s.cfg = CfgUnit.powerOn) : Configured s := by
  have checked : staticFailure CfgUnit.powerOn.active = none := by decide
  refine configured_of_settled ?_ (power ▸ checked) fun k => ?_
  · rw [power]
    decide
  · rw [State.record, power]
    exact powerOn_settled k

/-! ### The completion of a retirement (R40, R191) -/

theorem retireInCopy_stream (k j : StreamId) (c : Settings) : (retireInCopy k c).streams[j] =
    if j = k then { c.streams[j] with stateRequest := 0 } else c.streams[j] := by
  unfold retireInCopy
  rw [modAt_get]

theorem retireInCopy_window (k : StreamId) (n : WindowId) (c : Settings) : (retireInCopy k c).windows[n] =
    if c.windows[n].stream.toNat = k.val then { c.windows[n] with valid := false } else c.windows[n] := by
  unfold retireInCopy
  rw [mapAll_get]

/-- A retirement changes no field of a stream record but its state request. -/
theorem retireInCopy_stream_keeps {α : Type} (f : StreamRecord → α)
    (blind : ∀ r : StreamRecord, f { r with stateRequest := 0 } = f r) (k j : StreamId) (c : Settings) :
    f (retireInCopy k c).streams[j] = f c.streams[j] := by
  rw [retireInCopy_stream]
  split
  · exact blind _
  · rfl

/-- A retirement changes no global setting but the miss policy. -/
theorem retireInCopy_global_keeps {α : Type} (f : GlobalSettings → α)
    (blind : ∀ g : GlobalSettings, f { g with missPolicy := 1 } = f g) (k : StreamId) (c : Settings) :
    f (retireInCopy k c).global = f c.global := by
  unfold retireInCopy
  dsimp only
  split
  · exact blind _
  · rfl

/-- The requests of the other streams stand. -/
theorem requestsOn_retireInCopy {k : StreamId} {code : Byte} {c : Settings} (inRange : code.toNat ≤ 15)
    (other : code.toNat ≠ k.val) :
    requestsOn (retireInCopy k c).streams[streamNamed code] = requestsOn c.streams[streamNamed code] := by
  have differs : streamNamed code ≠ k := fun h => by
    have : code.toNat % 16 = k.val := congrArg Fin.val h
    omega
  rw [retireInCopy_stream, if_neg differs]

theorem stream_le_of_windowInRange {w : WindowEntry} (inRange : windowInRange w = true) : w.stream.toNat ≤ 15 := by
  rw [StaticChecks.windowInRange_eq, decide_eq_true_iff] at inRange
  exact inRange.1

theorem missStream_le_of_globalInRange {g : GlobalSettings} (inRange : globalInRange g = true) :
    g.missStream.toNat ≤ 15 := by
  rw [StaticChecks.globalInRange_eq, decide_eq_true_iff] at inRange
  obtain ⟨_, _, missStream, _⟩ := inRange
  exact missStream

/-- A copy that passes every check passes them after a retirement: no valid window names the retired stream any more, and the
miss policy is DENY when it was the miss stream (R40, R191). -/
theorem staticFailure_retireInCopy {c : Settings} (k : StreamId) (checked : staticFailure c = none) :
    staticFailure (retireInCopy k c) = none := by
  rw [StaticChecks.staticFailure_eq_none_iff] at checked ⊢
  obtain ⟨global, stream, window, rate, slot, reserve, rateLimits, latency, critical, windows, miss⟩ := checked
  have reserved : reservedTotal (retireInCopy k c) = reservedTotal c :=
    congrArg List.sum (List.map_congr_left fun j _ =>
      retireInCopy_stream_keeps (fun r => r.reserved.toNat) (fun _ => rfl) k j c)
  refine ⟨?_, fun j => ?_, fun n => ?_, fun j => ?_, fun j => ?_, ?_, fun j => ?_, fun j => ?_, ?_, fun n => ?_, ?_⟩
  · simp only [retireInCopy]
    split
    · simp_all [globalInRange]
    · exact global
  · rw [retireInCopy_stream]
    have old := stream j
    split
    · simp_all [streamInRange]
    · exact old
  · rw [retireInCopy_window]
    split <;> exact window n
  · rw [retireInCopy_stream_keeps rateOrdered fun _ => rfl]; exact rate j
  · rw [retireInCopy_stream_keeps slotOrdered fun _ => rfl]; exact slot j
  · rw [reserved]; exact reserve
  · rw [retireInCopy_stream_keeps rateLimitsOrdered fun _ => rfl]; exact rateLimits j
  · rw [retireInCopy_stream_keeps latencyLimitsOrdered fun _ => rfl]; exact latency j
  · rw [retireInCopy_global_keeps GlobalSettings.criticalRelease fun _ => rfl,
      retireInCopy_global_keeps GlobalSettings.criticalLimit fun _ => rfl]
    exact critical
  · have inRange := stream_le_of_windowInRange (window n)
    obtain ⟨formed, on⟩ := windows n
    rw [retireInCopy_window]
    split
    · simp [windowFormed, windowStreamOn]
    · next other => simpa only [windowStreamOn, requestsOn_retireInCopy inRange other] using ⟨formed, on⟩
  · have inRange := missStream_le_of_globalInRange global
    by_cases named : c.global.missStream.toNat = k.val
    · simp [missStreamOn, missDenies, retireInCopy, named]
    · have same : (retireInCopy k c).global = c.global := if_neg named
      simpa only [missStreamOn, same, requestsOn_retireInCopy inRange named] using miss

/-- The stream of a drain report is RETIRING under a PENDING RETIRE (R84). -/
theorem retiringStream_spec {s : State} {k : StreamId} (reported : s.retiringStream = some k) :
    s.pendingCode 0x04 = true ∧ s.cfg.streamState[k] = .retiring := by
  unfold State.retiringStream at reported
  split at reported
  · next pending => exact ⟨pending, by simpa using List.find?_some reported⟩
  · simp at reported

/-- At most one stream is RETIRING (R181), so none is after its retirement. -/
theorem completeRetirement_configured {s : State} {k : StreamId} (reported : s.retiringStream = some k)
    (sound : Configured s) : Configured (completeRetirement k s) := by
  refine configured_of_settled (by simp [completeRetirement, finishCommand, raiseGlobal])
    (staticFailure_retireInCopy k sound.checked) fun j => ?_
  show (putAt s.cfg.streamState k .off)[j] = requestedState (retireInCopy k s.cfg.active).streams[j]
  rw [putAt_get, retireInCopy_stream]
  by_cases same : j = k
  · simp only [same, if_true]
    rfl
  · simp only [same, if_false]
    obtain ⟨_, _, unique⟩ := id sound
    exact sound.requested fun retiring => same (unique j k retiring (retiringStream_spec reported).2)

/-! ### What an operation of the traffic keeps -/

/-- The stream that an in-flight entry is charged to: none for a FREE entry and for an issue on the PASS path (R99). -/
def owner : Entry → Option StreamId
  | .free => none
  | .active t _ => t.stream
  | .expiring t _ => t.stream
  | .quarantined t _ => t.stream

/-- What the operations of the device keep: the level of RESET#, a sound configuration, and the streams of the in-flight
entries, which only a stream that `may` issue can enter. -/
structure Orderly (may : StreamId → Prop) (s t : State) : Prop where
  reset : t.pins.reset = s.pins.reset
  configured : Configured s → Configured t
  owners : ∀ (n : EntryId) (k : StreamId), owner t.table[n] = some k → owner s.table[n] = some k ∨ may k

section
variable {may : StreamId → Prop} {s t u : State}

theorem Orderly.refl (s : State) : Orderly may s s := ⟨rfl, id, fun _ _ => .inl⟩

theorem Orderly.trans (first : Orderly may s t) (second : Orderly may t u) : Orderly may s u where
  reset := second.reset.trans first.reset
  configured := second.configured ∘ first.configured
  owners n k here := (second.owners n k here).elim (first.owners n k) .inr

/-- A list of such operations is one. -/
theorem Orderly.foldl {α : Type} {f : State → α → State} (each : ∀ s a, Orderly may s (f s a)) :
    ∀ (l : List α) (s : State), Orderly may s (l.foldl f s)
  | [], s => .refl s
  | a :: l, s => (each s a).trans (Orderly.foldl each l (f s a))

/-- An operation on the in-flight table. -/
theorem Orderly.of_table (reset : t.pins.reset = s.pins.reset) (cfg : t.cfg = s.cfg)
    (owners : ∀ (n : EntryId) (k : StreamId), owner t.table[n] = some k → owner s.table[n] = some k ∨ may k) :
    Orderly may s t :=
  ⟨reset, Configured.congr (by rw [cfg]) (by rw [cfg]) (by rw [cfg]) (by rw [cfg]) fun _ => by rw [cfg], owners⟩

/-- An operation on the configuration. -/
theorem Orderly.of_config (configured : Configured s → Configured t)
    (frame : t.pins.reset = s.pins.reset ∧ t.table = s.table) : Orderly may s t := by
  obtain ⟨reset, table⟩ := frame
  exact ⟨reset, configured, fun _ _ here => .inl (table ▸ here)⟩

/-- An operation on another part of the device. -/
theorem Orderly.of_frame (frame : t.pins.reset = s.pins.reset ∧ t.cfg = s.cfg ∧ t.table = s.table) :
    Orderly may s t := by
  obtain ⟨reset, cfg, table⟩ := frame
  exact .of_table reset cfg fun _ _ here => .inl (table ▸ here)

/-- An operation that follows a change in another part of the device. -/
theorem Orderly.after (second : Orderly may t u)
    (frame : t.pins.reset = s.pins.reset ∧ t.cfg = s.cfg ∧ t.table = s.table) : Orderly may s u :=
  (Orderly.of_frame frame).trans second

/-- One entry changes. -/
theorem putAt_owners {v : Vector Entry 48} {n : EntryId} {e : Entry}
    (entry : ∀ k, owner e = some k → owner v[n] = some k ∨ may k) (m : EntryId) (k : StreamId)
    (here : owner (putAt v n e)[m] = some k) : owner v[m] = some k ∨ may k := by
  rw [putAt_get] at here
  split at here
  · next same => exact same ▸ entry k here
  · exact .inl here

/-- One entry becomes FREE, or keeps its transaction. -/
theorem Orderly.of_entry (n : EntryId) (e : Entry) (keeps : owner e = none ∨ owner e = owner s.table[n]) :
    Orderly may s { s with table := putAt s.table n e } :=
  .of_table rfl rfl (putAt_owners fun k here => by
    rcases keeps with gone | same
    · simp [gone] at here
    · exact .inl (same ▸ here))

/-! ### The operations of the traffic, the timers and the monitor -/

theorem finish_orderly (a s : State) : Orderly may s (finish a s) := .of_frame (by simp)

theorem retestSlot_orderly (s : State) : Orderly may s (retestSlot s) := .of_frame (by simp)

/-- An issue enters the stream of its transaction. -/
theorem sendDown_orderly (n : EntryId) (req : Request) {k : Option StreamId} (allowed : ∀ j, k = some j → may j) (s : State) :
    Orderly may s (sendDown n req k s) :=
  .of_table rfl rfl (putAt_owners fun j here => .inr (allowed j here))

/-- An issue on the PASS path enters no stream. -/
theorem passPath_orderly (req : Request) (reg : Bool) (s : State) : Orderly may s (passPath req reg s) := by
  rcases passPath_cases req reg s with ⟨n, _, _, issued⟩ | waits
  · rw [issued]
    exact (sendDown_orderly n req (by simp) { s with stage := .empty }).after ⟨rfl, rfl, rfl⟩
  · rw [waits]
    exact .of_frame ⟨rfl, rfl, rfl⟩

theorem checkPoolEmpty_orderly (s : State) : Orderly may s (checkPoolEmpty s) := by
  have regime : Orderly may s { s with cfg := { s.cfg with regime := .pass } } :=
    .of_config (Configured.congr rfl rfl rfl rfl fun _ => rfl) ⟨rfl, rfl⟩
  rcases checkPoolEmpty_cases s with same | ⟨_, _, ended | ⟨req, reg, _, ended⟩⟩
  · rw [same]
    exact .refl s
  · rw [ended]
    exact regime
  · rw [ended]
    exact regime.trans (passPath_orderly req reg _)

theorem checkDrained_orderly (s : State) : Orderly may s (checkDrained s) := by
  rcases checkDrained_cases s with same | ⟨k, reported, _, completed⟩
  · rw [same]
    exact .refl s
  · rw [completed]
    exact .of_config (completeRetirement_configured reported) (by simp)

theorem acceptLost_orderly (n : EntryId) (s : State) : Orderly may s (acceptLost n s) := by
  rcases acceptLost_cases n s with same | ⟨t, cause, entry, accepted⟩
  · rw [same]
    exact .refl s
  · rw [accepted]
    cases cause
    · exact (Orderly.of_entry n (.quarantined t .timeout) (.inr (by rw [entry]; rfl))).trans
        ((checkDrained_orderly _).after (by simp))
    · exact (Orderly.of_entry n .free (.inl rfl)).trans ((checkDrained_orderly _).after (by simp))

theorem acceptStale_orderly (p : TagPair) (s : State) : Orderly may s (acceptStale p s) :=
  (((retestSlot_orderly (setPool (dropExpired p s.pool) s)).trans (checkPoolEmpty_orderly _)).trans
    (checkDrained_orderly _)).after (by simp)

theorem acceptOffer_orderly (o : Offer) (s : State) : Orderly may s (acceptOffer o s) := by
  obtain ⟨_ | p | n, e⟩ := o
  · exact .of_frame ⟨rfl, rfl, rfl⟩
  · exact (acceptStale_orderly p { s with localList := s.localList ++ [e] }).after ⟨rfl, rfl, rfl⟩
  · exact (acceptLost_orderly n { s with localList := s.localList ++ [e] }).after ⟨rfl, rfl, rfl⟩

theorem makeOffer_orderly (o : Offer) (s : State) : Orderly may s (makeOffer o s) := by
  unfold makeOffer
  split
  · exact acceptOffer_orderly o s
  · exact .of_frame ⟨rfl, rfl, rfl⟩

theorem acceptOldest_orderly (s : State) : Orderly may s (acceptOldest s) := by
  unfold acceptOldest
  split
  · exact .refl s
  · next o rest _ =>
    split
    · exact (acceptOffer_orderly o { s with offers := rest }).after ⟨rfl, rfl, rfl⟩
    · exact .refl s

/-- A refusal of the entry stage leaves the configuration, the table and the pool alone (R14). -/
theorem refuse_keeps (req : Request) (reg : Bool) (r : Reason) (k : Option StreamId) (s : State) :
    (refuse req reg r k s).cfg = s.cfg ∧ (refuse req reg r k s).table = s.table ∧ (refuse req reg r k s).pool = s.pool := by
  unfold refuse makeOffer
  split <;> simp [acceptOffer_stage]

theorem refuse_orderly (req : Request) (reg : Bool) (r : Reason) (k : Option StreamId) (s : State) :
    Orderly may s (refuse req reg r k s) :=
  .of_frame (by simp [refuse_keeps])

theorem regulatedChecks_orderly (req : Request) (reg : Bool) (s : State) : Orderly may s (regulatedChecks req reg s) := by
  rcases regulatedChecks_cases req reg s with h | h | ⟨_, h⟩ | h | ⟨_, h⟩ <;> rw [h]
  · exact refuse_orderly _ _ _ _ s
  · exact refuse_orderly _ _ _ _ s
  · exact .of_frame (by simp)
  · exact refuse_orderly _ _ _ _ s
  · exact .of_frame (by simp)

theorem checkRequest_orderly (req : Request) (reg : Bool) (s : State) : Orderly may s (checkRequest req reg s) := by
  unfold checkRequest
  split
  · exact refuse_orderly _ _ _ _ s
  split
  · exact refuse_orderly _ _ _ _ s
  split
  · exact regulatedChecks_orderly req reg s
  · exact passPath_orderly req reg s
  · exact .of_frame ⟨rfl, rfl, rfl⟩

theorem takeRequest_orderly (req : Request) (s : State) : Orderly may s (takeRequest req s) := by
  unfold takeRequest
  split
  · exact .refl s
  split
  · exact checkRequest_orderly req false s
  · exact (checkRequest_orderly req true { s with tagMap := s.tagMap ++ [pairOf req] }).after ⟨rfl, rfl, rfl⟩

theorem passIssue_orderly (s : State) : Orderly may s (passIssue s) := by
  unfold passIssue
  split
  · split
    · exact passPath_orderly _ _ s
    · exact .refl s
  all_goals exact .refl s

theorem expireStall_orderly (s : State) : Orderly may s (expireStall s) := by
  unfold expireStall
  split
  · split
    · exact refuse_orderly _ _ _ _ s
    · exact .refl s
  all_goals exact .refl s

theorem expireHeld_orderly (s : State) (h : Held) : Orderly may s (expireHeld s h) :=
  (makeOffer_orderly _ _).after (by simp)

theorem expireEntry_orderly (s : State) (n : EntryId) : Orderly may s (expireEntry s n) := by
  unfold expireEntry
  split
  · next t _ entry => 
    exact (Orderly.of_entry n (.expiring t .timeout) (.inr (by rw [entry]; rfl))).trans (makeOffer_orderly _ _)
  all_goals exact .refl s

theorem holdResponse_orderly {n : EntryId} {t : Flight} (r : MemResponse) (same : owner s.table[n] = t.stream) :
    Orderly may s (holdResponse n t r s) :=
  (Orderly.of_entry n (.active t (some (measureLatency t s))) (.inr same.symm)).trans (.of_frame ⟨rfl, rfl, rfl⟩)

theorem arriveAt_orderly (n : EntryId) (r : MemResponse) (s : State) : Orderly may s (arriveAt n r s) := by
  have frees (k : Option StreamId) (f : Acc → Acc) : Orderly may s (countTo k f { s with table := putAt s.table n .free }) :=
    (Orderly.of_entry n .free (.inl rfl)).trans (.of_frame (by simp))
  unfold arriveAt
  split
  · next entry => exact holdResponse_orderly r (by rw [entry]; rfl)
  · exact .refl s
  · next entry =>
    exact (holdResponse_orderly (s := { s with offers := withdrawLost n s.offers }) r (by rw [entry]; rfl)).after
      ⟨rfl, rfl, rfl⟩
  · exact .of_frame (by simp)
  · exact frees _ _
  · exact frees _ _
  · exact .of_frame (by simp)

theorem arrive_orderly (r : MemResponse) (s : State) : Orderly may s (arrive r s) := by
  unfold arrive
  split
  · exact .refl s
  split
  · exact arriveAt_orderly _ r s
  · exact .of_frame (by simp)

theorem deliverDownstream_orderly (r : OfferedResponse) (s : State) : Orderly may s (deliverDownstream r s) := by
  unfold deliverDownstream
  split
  · exact (Orderly.of_entry r.entry .free (.inl rfl)).trans ((checkDrained_orderly _).after (by simp))
  all_goals exact .refl s

theorem deliverLocal_orderly (e : LocalEntry) (rest : List LocalEntry) (s : State) :
    Orderly may s (deliverLocal e rest s) := by
  refine Orderly.trans ?_ (acceptOldest_orderly _)
  split <;> exact .of_frame (by simp)

theorem deliverResponse_orderly (s : State) : Orderly may s (deliverResponse s) := by
  unfold deliverResponse
  split
  · exact .refl s
  split
  · exact .refl s
  · exact deliverDownstream_orderly _ s
  · exact deliverLocal_orderly _ _ s
  · exact deliverDownstream_orderly _ s
  · exact deliverLocal_orderly _ _ s

theorem refillTick_orderly (s : State) : Orderly may s (refillTick s) := by
  unfold refillTick
  split <;> exact .of_frame ⟨rfl, rfl, rfl⟩

theorem publish_orderly (s : State) : Orderly may s (publish s) := by
  have evaluated (v : State) : (evaluateWatches v).pins = v.pins ∧ (evaluateWatches v).cfg = v.cfg ∧
      (evaluateWatches v).table = v.table := by
    unfold evaluateWatches
    split <;> simp
  unfold publish
  split
  · exact .of_frame (by simp [evaluated])
  · exact .refl s

theorem actAdjustment_orderly (hot : Bool) (s : State) : Orderly may s (actAdjustment hot s) := by
  refine .of_frame ?_
  unfold actAdjustment
  dsimp only
  split <;> split <;> simp

theorem adjust_orderly (hot : Bool) (s : State) : Orderly may s (adjust hot s) := by
  unfold adjust
  dsimp only
  split
  · split
    · exact (actAdjustment_orderly hot _).after ⟨rfl, rfl, rfl⟩
    · exact .of_frame ⟨rfl, rfl, rfl⟩
  · exact .refl s

/-- A grant is made to a stream that is budget-eligible (R55, R91). -/
theorem budgetOk_of_grant {k : StreamId} {arb : Arbiter} (granted : s.grant = some (k, arb)) : s.budgetOk k = true := by
  have eligible := grant_eligible granted
  unfold State.eligible at eligible
  split at eligible <;> simp_all

theorem issueHead_orderly {h : Held} (allowed : may h.stream) (arb : Arbiter) (n : EntryId) (s : State) :
    Orderly may s (issueHead h arb n s) :=
  (((sendDown_orderly n h.req (k := some h.stream) (fun _ same => Option.some.inj same ▸ allowed) _).after (by simp)).trans
    (retestSlot_orderly _)).trans (checkPoolEmpty_orderly _)

/-- A grant enters a budget-eligible stream and no other (R55). -/
theorem issueGrant_orderly (s : State) : Orderly (fun k => s.budgetOk k = true) s (issueGrant s) := by
  unfold issueGrant
  split
  · next granted =>
    split
    · next h head =>
      obtain ⟨_, stream, _⟩ := queueHead_mem head
      exact issueHead_orderly (stream ▸ budgetOk_of_grant granted) _ _ s
    · exact .refl s
  · exact .refl s

/-! ### The commit event and the reset inputs -/

/-- The settings of a commit become the active ones, and every stream takes the state it requests (R187). -/
theorem applySettings_cfg (c : Settings) (after : Regime) (s : State) : (applySettings c after s).cfg = { s.cfg with
    active := c
    streamState := mapAll s.cfg.streamState fun k _ => requestedState c.streams[k]
    regime := after } := rfl

theorem applySettings_frame (c : Settings) (after : Regime) (s : State) :
    (applySettings c after s).pins = s.pins ∧ (applySettings c after s).table = s.table := by simp [applySettings]

theorem commitEpoch_frame (s : State) : (commitEpoch s).pins = s.pins ∧ (commitEpoch s).cfg = s.cfg ∧
    (commitEpoch s).table = s.table ∧ (commitEpoch s).accounts = s.accounts ∧ (commitEpoch s).gov = s.gov ∧
    (commitEpoch s).refillDue = s.refillDue := by
  unfold commitEpoch
  split <;> simp

theorem reexamine_orderly (before : Regime) (s : State) : Orderly may s (reexamine before s) := by
  unfold reexamine
  split
  · split
    · exact refuse_orderly _ _ _ _ s
    split
    · exact .of_frame (by simp)
    split
    · exact refuse_orderly _ _ _ _ s
    · exact .refl s
  · exact .of_frame ⟨rfl, rfl, rfl⟩
  · exact passPath_orderly _ _ s
  · exact regulatedChecks_orderly _ _ s
  · exact regulatedChecks_orderly _ _ s
  · exact .refl s

theorem commitHolds_orderly (old : Settings) (s : State) : Orderly may s (commitHolds old s) :=
  .foldl expireHeld_orderly _ s

theorem commitTimeouts_orderly (old : Settings) (s : State) : Orderly may s (commitTimeouts old s) := by
  unfold commitTimeouts
  split
  · exact .refl s
  · exact .foldl expireEntry_orderly _ s

/-- The staged copy was frozen as it passed the checks, so the active copy that it becomes passes them (R174, R184, R187). -/
theorem applySettings_orderly (due : s.pendingCode 0x01 = true) (after : Regime) :
    Orderly may s (finishCommand .done .ok .none (commitEpoch (applySettings s.cfg.staged after s))) := by
  refine .of_config (fun sound => configured_of_settled ?_ ?_ fun k => ?_) ?_
  · simp [finishCommand, raiseGlobal]
  · simpa only [finishCommand_frame, commitEpoch_frame, applySettings_cfg] using sound.frozen due
  · simp only [State.record, finishCommand_frame, commitEpoch_frame, applySettings_cfg, mapAll_get]
  · simp [commitEpoch_frame, applySettings_frame]

theorem applyCommit_orderly (due : s.pendingCode 0x01 = true) : Orderly may s (applyCommit s) :=
  (((applySettings_orderly due _).trans (reexamine_orderly _ _)).trans (commitHolds_orderly _ _)).trans
    (commitTimeouts_orderly _ _)

/-- While one command is PENDING no other one is. -/
theorem pendingCode_unique {a b : Byte} (differ : a ≠ b) (pending : s.pendingCode a = true) : s.pendingCode b = false := by
  simp only [State.pendingCode, Bool.and_eq_true, beq_iff_eq] at pending
  simp [State.pendingCode, pending.2, differ]

theorem judgeCommit_orderly (s : State) : Orderly may s (judgeCommit s) := by
  unfold judgeCommit
  split
  · next due =>
    have pending : s.pendingCode 0x01 = true := (Bool.and_eq_true_iff.mp due).1
    split
    · exact .of_config (Configured.of_idle (pendingCode_unique (by decide) pending)
        (by simp [finishCommand, raiseGlobal]) (by simp) (by simp)) (by simp)
    · exact applyCommit_orderly pending
  · exact .refl s

/-- URST# leaves no ACTIVE entry, and the others FREE or with the stream they had (R113). -/
theorem owner_urstEntry (e : Entry) : owner (urstEntry e) = owner e ∨ owner (urstEntry e) = none := by
  unfold urstEntry
  split <;> simp [owner]

/-- DRST# leaves entries FREE, or EXPIRING with the stream they had (R111). -/
theorem owner_drstEntry (e : Entry) : owner (drstEntry e) = owner e ∨ owner (drstEntry e) = none := by
  cases e <;> simp [drstEntry, owner]

/-- Every entry becomes FREE or keeps its stream. -/
theorem mapAll_owners {v : Vector Entry 48} {f : Entry → Entry} (each : ∀ e, owner (f e) = owner e ∨ owner (f e) = none)
    (n : EntryId) (k : StreamId) (here : owner (mapAll v fun _ e => f e)[n] = some k) : owner v[n] = some k ∨ may k := by
  rw [mapAll_get] at here
  rcases each v[n] with same | gone
  · exact .inl (same ▸ here)
  · cases gone.symm.trans here

theorem countDrains_keeps (s : State) : (countDrains s).cfg = s.cfg ∧ (countDrains s).pins = s.pins := by
  have counted := (foldl_drain (allEntries.filterMap fun n => s.table[n].heldResponse) s).1
  dsimp only at counted
  rw [countDrains, counted]
  exact ⟨rfl, rfl⟩

theorem purge_orderly (s : State) : Orderly may s (purge s) := by
  refine Orderly.trans ?_ ((checkPoolEmpty_orderly _).trans (checkDrained_orderly _))
  refine .of_table (by simp [countDrains_keeps]) (by simp [countDrains_keeps]) ?_
  simp only [setPool_frame]
  exact mapAll_owners owner_urstEntry

theorem cutDownstream_orderly (s : State) : Orderly may s (cutDownstream s) := by
  refine Orderly.trans ?_ (.foldl (fun s o => makeOffer_orderly o s) _ _)
  exact .of_table rfl rfl (mapAll_owners owner_drstEntry)

end

/-! ### What a management command keeps -/

/-- What a management command keeps: it is orderly, enters no stream, and leaves the regime and the starved flags that must be
set. -/
structure Managed (s t : State) : Prop where
  orderly : Orderly (fun _ => False) s t
  regime : t.cfg.regime = s.cfg.regime
  flags : s.StarvedSound → t.StarvedSound

section
variable {s t u : State}

theorem Managed.refl (s : State) : Managed s s := ⟨.refl s, rfl, id⟩

theorem Managed.trans (first : Managed s t) (second : Managed t u) : Managed s u :=
  ⟨first.orderly.trans second.orderly, second.regime.trans first.regime, second.flags ∘ first.flags⟩

/-- A command that moves the configuration, but nothing that the conditions of R56 read. -/
theorem Managed.of_config (configured : Configured s → Configured t) (frame : t.pins.reset = s.pins.reset ∧
    t.portOpen = s.portOpen ∧ t.table = s.table ∧ t.pool = s.pool ∧ t.accounts = s.accounts ∧
    t.cfg.regime = s.cfg.regime ∧ ∀ k, t.isProtected k = s.isProtected k) : Managed s t := by
  obtain ⟨reset, port, table, pool, accounts, regime, cls⟩ := frame
  refine ⟨.of_config configured ⟨reset, table⟩, regime, fun flags k starves => ?_⟩
  rw [starving_congr regime (cls k) (by rw [accounts]) port table pool] at starves
  rw [accounts]
  exact flags k starves

/-- A command that moves neither the configuration nor anything that the conditions of R56 read. -/
theorem Managed.of_frame (frame : t.cfg = s.cfg ∧ t.pins.reset = s.pins.reset ∧ t.portOpen = s.portOpen ∧
    t.table = s.table ∧ t.pool = s.pool ∧ t.accounts = s.accounts) : Managed s t := by
  obtain ⟨cfg, reset, port, table, pool, accounts⟩ := frame
  refine .of_config ?_ ⟨reset, port, table, pool, accounts, by rw [cfg], fun k => ?_⟩
  · exact Configured.congr (by rw [cfg]) (by rw [cfg]) (by rw [cfg]) (by rw [cfg]) fun _ => by rw [cfg]
  · simp only [State.isProtected, State.record, cfg]

/-! ### The commands of the command slot -/

theorem refuseBusy_managed (s : State) : Managed s (refuseBusy s) :=
  .of_config (Configured.congr rfl rfl rfl rfl fun _ => rfl) (by simp [State.portOpen, State.isProtected, State.record])

theorem takeCode_managed (code : Byte) (idle : s.cfg.slot.state ≠ .pending) : Managed s (takeCode code s) :=
  .of_config (Configured.of_idle (pendingCode_of_idle idle _) idle rfl rfl)
    (by simp [State.portOpen, State.isProtected, State.record])

/-- A result that ends any command but a RETIRE (R169). -/
theorem finishCommand_managed (st : SlotState) (r : Result) (d : Detail) (ended : st ≠ .pending)
    (idle : s.pendingCode 0x04 = false) : Managed s (finishCommand st r d s) :=
  .of_config (Configured.of_idle idle ended rfl rfl) (by simp [State.portOpen, State.isProtected, State.record])

/-- A command arrives: BUSY, or carried out when it is taken (R181). -/
theorem arriveAs_managed {code : Byte} {act : State → State}
    (acts : ∀ t : State, t.cfg.slot.state ≠ .pending → t.cfg.slot.code = code → Managed t (act t)) (s : State) :
    Managed s (arriveAs code act s) := by
  unfold arriveAs
  split
  · exact refuseBusy_managed s
  · next free =>
    have idle : s.cfg.slot.state ≠ .pending := by simpa [State.slotPending] using free
    exact (takeCode_managed code idle).trans (acts _ idle rfl)

/-- A COMMIT becomes PENDING with a staged copy that passes the checks (R183). -/
theorem actCommit_managed (idle : s.cfg.slot.state ≠ .pending) : Managed s (actCommit s) := by
  unfold actCommit
  split
  · exact finishCommand_managed _ _ _ (by simp) (pendingCode_of_idle idle _)
  · next passes =>
    refine .of_config (fun sound => ⟨⟨sound.checked, fun _ => passes⟩, ?_⟩)
      (by simp [State.portOpen, State.isProtected, State.record])
    exact streamsSound_of_settled (sound.settled (pendingCode_of_idle idle _))

theorem actRevert_managed (idle : s.cfg.slot.state ≠ .pending) : Managed s (actRevert s) :=
  .of_config (Configured.of_idle (pendingCode_of_idle idle _) (by simp [actRevert, finishCommand, raiseGlobal])
    (by simp [actRevert]) (by simp [actRevert])) (by simp [actRevert, State.portOpen, State.isProtected, State.record])

theorem actAck_managed (idle : s.cfg.slot.state ≠ .pending) : Managed s (actAck s) :=
  (finishCommand_managed .done .ok .none (by simp) (pendingCode_of_idle idle _)).trans
    (.of_frame ⟨rfl, rfl, rfl, rfl, rfl, rfl⟩)

theorem actUnknown_managed (idle : s.cfg.slot.state ≠ .pending) : Managed s (actUnknown s) :=
  finishCommand_managed .refused .unknown .none (by simp) (pendingCode_of_idle idle _)

/-- RESTART clears the flags and sets those of the starving streams again (R56, R193). -/
theorem actRestart_managed (idle : s.cfg.slot.state ≠ .pending) : Managed s (actRestart s) where
  orderly := (finishCommand_managed .done .ok .none (by simp) (pendingCode_of_idle idle _)).orderly.trans
    (.of_frame (by simp [actRestart]))
  regime := by simp [actRestart]
  flags _ := markStarved_starvedSound _

/-- RETIRE makes a stream that is ON the one RETIRING stream, under a PENDING RETIRE (R181, R190). -/
theorem startRetiring_configured {k : StreamId} (idle : s.cfg.slot.state ≠ .pending) (code : s.cfg.slot.code = 0x04)
    (on : s.cfg.streamState[k] = .on) (sound : Configured s) : Configured (becomePending (startRetiring k s)) := by
  have settled := sound.settled (pendingCode_of_idle idle _)
  have pending : (becomePending (startRetiring k s)).pendingCode 0x04 = true := by
    simp [becomePending, State.pendingCode, code]
  have streams (j : StreamId) : (becomePending (startRetiring k s)).cfg.streamState[j] =
      if j = k then .retiring else requestedState (s.record j) := by
    rw [← settled j]
    exact putAt_get _ _ _ _
  have only_retiring {j : StreamId} (h : (becomePending (startRetiring k s)).cfg.streamState[j] = .retiring) : j = k := by
    by_contra other
    rw [streams, if_neg other] at h
    exact requestedState_ne_retiring _ h
  refine ⟨⟨sound.checked, fun h => ?_⟩, fun j => ⟨?_, fun _ => pending⟩, fun i j hi hj => ?_⟩
  · rw [pendingCode_unique (by decide) pending] at h
    exact absurd h (by decide)
  · rw [streams]
    split
    · next same =>
      have requested : requestsOn (s.record j) = true := sound.requestsOn (by simp [same, on])
      exact iff_of_false (by simp) fun off => Bool.false_ne_true (off.symm.trans requested)
    · exact requestedState_eq_off_iff _
  · rw [only_retiring hi, only_retiring hj]

theorem startRetiring_managed {k : StreamId} (idle : s.cfg.slot.state ≠ .pending) (code : s.cfg.slot.code = 0x04)
    (on : s.cfg.streamState[k] = .on) : Managed s (becomePending (startRetiring k s)) :=
  .of_config (startRetiring_configured idle code on) (by simp [State.portOpen, State.isProtected, State.record])

theorem refuseRetired_managed (k : StreamId) (s : State) : Managed s (refuseRetired k s) := by
  unfold refuseRetired
  split
  · split
    · exact .of_frame (by simp [refuse_keeps, State.portOpen])
    · exact .refl s
  all_goals exact .refl s

/-- The completion of a retirement changes no class (R191). -/
theorem checkDrained_managed (s : State) : Managed s (checkDrained s) := by
  rcases checkDrained_cases s with same | ⟨k, reported, _, completed⟩
  · rw [same]
    exact .refl s
  · rw [completed]
    have cls (j : StreamId) : (completeRetirement k s).isProtected j = s.isProtected j :=
      congrArg (· == StreamClass.prot) (retireInCopy_stream_keeps classOf (fun _ => rfl) k j s.cfg.active)
    exact .of_config (completeRetirement_configured reported) (by simp [State.portOpen, cls])

theorem actRetire_managed (idle : s.cfg.slot.state ≠ .pending) (code : s.cfg.slot.code = 0x04) :
    Managed s (actRetire s) := by
  have refused (r : Result) : Managed s (finishCommand .refused r .none s) :=
    finishCommand_managed _ _ _ (by simp) (pendingCode_of_idle idle _)
  unfold actRetire
  split
  · dsimp only
    split
    · exact refused _
    split
    · exact refused _
    · next on _ =>
      exact ((startRetiring_managed idle code (not_not.mp on)).trans (refuseRetired_managed _ _)).trans
        (checkDrained_managed _)
  · exact refused _

/-- CANCEL makes the RETIRING stream ON again, as it requests (R194). -/
theorem unretire_settled (sound : Configured s) (k : StreamId) :
    (unretire s.cfg.streamState)[k] = requestedState (s.record k) := by
  unfold unretire
  rw [mapAll_get]
  split
  · next retiring => simp [requestedState, sound.requestsOn (k := k) (by simp [retiring])]
  · next other => exact sound.requested other

theorem takeCancel_managed (s : State) : Managed s (takeCancel s) := by
  unfold takeCancel
  split
  · refine .of_config (fun sound => configured_of_settled ?_ sound.checked (unretire_settled sound)) ?_
    · simp [finishCommand, raiseGlobal]
    · simp [State.portOpen, State.isProtected, State.record]
  · next free =>
    have idle : s.cfg.slot.state ≠ .pending := by simpa [State.slotPending] using free
    exact (takeCode_managed 0x06 idle).trans
      (finishCommand_managed _ _ _ (by simp) (pendingCode_of_idle (s := takeCode 0x06 s) idle _))

theorem takeCommit_managed : ∀ s : State, Managed s (takeCommit s) :=
  arriveAs_managed fun _ idle _ => actCommit_managed idle

theorem takeRevert_managed : ∀ s : State, Managed s (takeRevert s) :=
  arriveAs_managed fun _ idle _ => actRevert_managed idle

theorem takeAck_managed : ∀ s : State, Managed s (takeAck s) :=
  arriveAs_managed fun _ idle _ => actAck_managed idle

theorem takeRetire_managed : ∀ s : State, Managed s (takeRetire s) :=
  arriveAs_managed fun _ idle code => actRetire_managed idle code

theorem takeRestart_managed : ∀ s : State, Managed s (takeRestart s) :=
  arriveAs_managed fun _ idle _ => actRestart_managed idle

theorem commandArrives_managed (code : Byte) (s : State) : Managed s (commandArrives code s) := by
  unfold commandArrives
  split
  · exact takeCommit_managed s
  split
  · exact takeRevert_managed s
  split
  · exact takeAck_managed s
  split
  · exact takeRetire_managed s
  split
  · exact takeRestart_managed s
  split
  · exact takeCancel_managed s
  · exact arriveAs_managed (fun _ idle _ => actUnknown_managed idle) s

/-! ### The management link -/

/-- A staged write reaches the staged copy only while no COMMIT is PENDING (R184). -/
theorem writeStaged_managed (page off v : Nat) (s : State) : Managed s (writeStaged page off v s) := by
  unfold writeStaged
  split
  · exact .refl s
  split
  · exact .refl s
  split
  · exact .of_config (Configured.congr rfl rfl rfl rfl fun _ => rfl) (by simp [State.portOpen, State.isProtected, State.record])
  · next none_pending =>
    split
    · exact .refl s
    · exact .of_config (Configured.congr rfl rfl rfl rfl fun pending => absurd pending none_pending)
        (by simp [State.portOpen, State.isProtected, State.record])

theorem writeMask_managed (which : MaskByte) (v : Byte) (s : State) : Managed s (writeMask which v s) :=
  .of_frame (by simp [State.portOpen])

theorem writeHold_managed (v : Byte) (s : State) : Managed s (writeHold v s) := .of_frame ⟨rfl, rfl, rfl, rfl, rfl, rfl⟩

theorem writeArg_managed (i : Fin 3) (v : Byte) (s : State) : Managed s (writeArg i v s) :=
  .of_config (Configured.congr rfl rfl rfl rfl fun _ => rfl) (by simp [State.portOpen, State.isProtected, State.record])

theorem completeOther_managed (page off v : Nat) (s : State) : Managed s (completeOther page off v s) := by
  unfold completeOther
  dsimp only
  split
  · exact commandArrives_managed _ s
  split
  · exact writeArg_managed _ _ s
  split
  · exact writeArg_managed _ _ s
  split
  · exact writeArg_managed _ _ s
  split
  · exact writeHold_managed _ s
  split
  · exact writeMask_managed _ _ s
  split
  · exact writeMask_managed _ _ s
  · exact .refl s

theorem setWriteLatch_managed (l : Option WriteLatch) (s : State) : Managed s (setWriteLatch l s) :=
  .of_frame ⟨rfl, rfl, rfl, rfl, rfl, rfl⟩

theorem setAck_managed (ack : Bool) (s : State) : Managed s (setAck ack s) := .of_frame ⟨rfl, rfl, rfl, rfl, rfl, rfl⟩

theorem setPointer_managed (page : Byte) (off : Nat) (st : TransferState) (s : State) :
    Managed s (setPointer page off st s) := .of_frame ⟨rfl, rfl, rfl, rfl, rfl, rfl⟩

theorem writeLatched_managed (page lo : Nat) (f : Field Settings) (i : Nat) (b : Byte) (s : State) :
    Managed s (writeLatched page lo f i b s) := by
  unfold writeLatched
  dsimp only
  split
  · exact (setWriteLatch_managed none s).trans (writeStaged_managed _ _ _ _)
  · exact setWriteLatch_managed _ s

theorem writeAt_managed (page off : Nat) (b : Byte) (s : State) : Managed s (writeAt page off b s) := by
  unfold writeAt
  split
  · unfold writeStagedByte
    split
    · exact .refl s
    split
    · exact .refl s
    split
    · exact writeStaged_managed _ _ _ s
    · exact writeLatched_managed _ _ _ _ _ s
  · exact completeOther_managed _ _ _ s

theorem receiveByte_managed (b : Byte) (s : State) : Managed s (receiveByte b s) := by
  unfold receiveByte
  split
  · exact (setPointer_managed _ _ _ s).trans (setAck_managed _ _)
  · exact (setPointer_managed _ _ _ s).trans (setAck_managed _ _)
  · split
    · exact ((setPointer_managed _ _ _ s).trans (writeAt_managed _ _ _ _)).trans (setAck_managed _ _)
    · exact setAck_managed _ s
  · exact setAck_managed _ s
  · exact setAck_managed _ s

theorem clockByte_managed (hot ack : Bool) (s : State) : Managed s (clockByte hot ack s) := by
  unfold clockByte
  split
  · exact .of_frame ⟨rfl, rfl, rfl, rfl, rfl, rfl⟩
  · exact .refl s

theorem endTransfer_managed (s : State) : Managed s (endTransfer s) := .of_frame ⟨rfl, rfl, rfl, rfl, rfl, rfl⟩

theorem startTransfer_managed (address : BitVec 7) (read : Bool) (s : State) : Managed s (startTransfer address read s) := by
  unfold startTransfer
  dsimp only
  split <;> exact .of_frame ⟨rfl, rfl, rfl, rfl, rfl, rfl⟩

theorem abandonTransfer_managed (lowFor : Nat) (s : State) : Managed s (abandonTransfer lowFor s) := by
  unfold abandonTransfer
  split
  · exact endTransfer_managed s
  · exact .refl s

end

/-! ### What a command answers -/

/-- The answers of the commands: an event with what follows it, a management command or a command that RESET# holds back, and
the two edges of RESET#. -/
inductive Answers (s : State) : State → Prop
  | finished (u : State) (orderly : Orderly (fun k => s.budgetOk k = true) s u)
      (held : s.pins.reset = true → u.cfg.regime = s.cfg.regime) : Answers s (finish s u)
  | managed (u : State) (kept : Managed s u) : Answers s u
  | resetAsserted : Answers s (assertReset s)
  | resetDeasserted (straps : BitVec 2) (asserted : s.pins.reset = true) : Answers s (deassertReset straps s)

theorem event_answers {f : State → State} {s : State} (orderly : Orderly (fun k => s.budgetOk k = true) s (f s)) :
    Answers s (event f s) := by
  cases reset : s.pins.reset with
  | true =>
    rw [event_reset reset]
    exact .managed s (.refl s)
  | false =>
    rw [event_running reset]
    exact .finished (f s) orderly (by simp [reset])

theorem whileRunning_answers {f : State → State} (kept : ∀ s, Managed s (f s)) (s : State) :
    Answers s (whileRunning f s) := by
  unfold whileRunning
  split
  · exact .managed s (.refl s)
  · exact .managed _ (kept s)

/-- A change of the input levels other than RESET# that leaves the downstream port as it is moves no condition of R56 (R92). -/
theorem pins_managed {s : State} {pins : Pins} (reset : pins.reset = s.pins.reset)
    (port : ({ s with pins := pins } : State).portOpen = s.portOpen) : Managed s { s with pins := pins } :=
  .of_frame ⟨rfl, reset, port, rfl, rfl, rfl⟩

theorem urstAssert_answers (s : State) :
    Answers s (if s.pins.reset then { s with pins := { s.pins with urst := true } } else finish s (purge s)) := by
  split
  · exact .managed _ (pins_managed rfl rfl)
  · next running => exact .finished _ (purge_orderly s) fun asserted => absurd asserted running

theorem drstAssert_answers (s : State) :
    Answers s (if s.pins.reset then { s with pins := { s.pins with drst := true } } else finish s (cutDownstream s)) := by
  split
  · next asserted => exact .managed _ (pins_managed rfl (by simp [State.portOpen, asserted]))
  · next running => exact .finished _ (cutDownstream_orderly s) fun asserted => absurd asserted running

theorem deassertReset_answers (straps : BitVec 2) (s : State) : Answers s (deassertReset straps s) := by
  cases asserted : s.pins.reset with
  | true => exact .resetDeasserted straps asserted
  | false =>
    rw [deassertReset, if_neg (by simp [asserted])]
    exact .managed s (.refl s)

/-- What each command answers. -/
theorem exec_answers (c : Instr) (s : State) : ∃ t, exec c s = .next t ∧ Answers s t := by
  cases c with
  | requestTaken req => exact ⟨_, rfl, event_answers (takeRequest_orderly req s)⟩
  | placement => exact ⟨_, rfl, event_answers (retestSlot_orderly s)⟩
  | passIssue => exact ⟨_, rfl, event_answers (passIssue_orderly s)⟩
  | issue => exact ⟨_, rfl, event_answers (issueGrant_orderly s)⟩
  | responseArrival r => exact ⟨_, rfl, event_answers (arrive_orderly r s)⟩
  | responseDelivered => exact ⟨_, rfl, event_answers (deliverResponse_orderly s)⟩
  | offerAccepted => exact ⟨_, rfl, event_answers (acceptOldest_orderly s)⟩
  | stallTimeout => exact ⟨_, rfl, event_answers (expireStall_orderly s)⟩
  | holdTimeout who => exact ⟨_, rfl, event_answers (.foldl expireHeld_orderly _ s)⟩
  | responseTimeout who => exact ⟨_, rfl, event_answers (.foldl expireEntry_orderly _ s)⟩
  | refillTick => exact ⟨_, rfl, event_answers (refillTick_orderly s)⟩
  | publication => exact ⟨_, rfl, event_answers (publish_orderly s)⟩
  | adjustment hot => exact ⟨_, rfl, event_answers (adjust_orderly hot s)⟩
  | commitEvent => exact ⟨_, rfl, event_answers (judgeCommit_orderly s)⟩
  | poolEmpty => exact ⟨_, rfl, event_answers (checkPoolEmpty_orderly s)⟩
  | retirementCompletion => exact ⟨_, rfl, event_answers (checkDrained_orderly s)⟩
  | resetAssert => exact ⟨_, rfl, .resetAsserted⟩
  | resetDeassert straps => exact ⟨_, rfl, deassertReset_answers straps s⟩
  | urstAssert => exact ⟨_, rfl, urstAssert_answers s⟩
  | urstDeassert => exact ⟨_, rfl, .managed _ (pins_managed rfl rfl)⟩
  | drstAssert => exact ⟨_, rfl, drstAssert_answers s⟩
  | drstDeassert => exact ⟨_, rfl, .finished (releaseDownstream s) (.of_frame ⟨rfl, rfl, rfl⟩) fun _ => rfl⟩
  | transferStart address read => exact ⟨_, rfl, whileRunning_answers (startTransfer_managed address read) s⟩
  | writeByte b => exact ⟨_, rfl, whileRunning_answers (receiveByte_managed b) s⟩
  | readByte hot ack => exact ⟨_, rfl, whileRunning_answers (clockByte_managed hot ack) s⟩
  | transferEnd => exact ⟨_, rfl, whileRunning_answers endTransfer_managed s⟩
  | sclTimeout lowFor => exact ⟨_, rfl, whileRunning_answers (abandonTransfer_managed lowFor) s⟩
  | commit => exact ⟨_, rfl, whileRunning_answers takeCommit_managed s⟩
  | revert => exact ⟨_, rfl, whileRunning_answers takeRevert_managed s⟩
  | ack => exact ⟨_, rfl, whileRunning_answers takeAck_managed s⟩
  | retire => exact ⟨_, rfl, whileRunning_answers takeRetire_managed s⟩
  | restart => exact ⟨_, rfl, whileRunning_answers takeRestart_managed s⟩
  | cancel => exact ⟨_, rfl, whileRunning_answers takeCancel_managed s⟩
  | unknownCode code => exact ⟨_, rfl, whileRunning_answers (commandArrives_managed code) s⟩
  | stagedWrite page offset value => exact ⟨_, rfl, whileRunning_answers (writeStaged_managed _ _ _) s⟩
  | maskWrite which value => exact ⟨_, rfl, whileRunning_answers (writeMask_managed which value) s⟩
  | alertHoldWrite value => exact ⟨_, rfl, whileRunning_answers (writeHold_managed value) s⟩
  | fieldWrite arg value => exact ⟨_, rfl, whileRunning_answers (writeArg_managed arg value) s⟩
  | downstreamPortReady ready => exact ⟨_, rfl, .finished (setReady ready s) (.of_frame ⟨rfl, rfl, rfl⟩) fun _ => rfl⟩

theorem answers_of_exec {c : Instr} {s t : State} (answer : exec c s = .next t) : Answers s t := by
  obtain ⟨u, answered, answers⟩ := exec_answers c s
  rw [answered] at answer
  cases answer
  exact answers

/-- A step runs a command, from the queue or by itself, or lets time pass; what the commands keep and neither the queue nor the
time moves, every step keeps. -/
theorem step_keeps {P : State → Prop} (queue : ∀ (s : State) (q : List Instr), P s → P { s with pending := q })
    (time : ∀ s, P s → P (tick s)) (command : ∀ s t, Answers s t → P s → P t) {s t : State} (holds : P s)
    (stepped : step s = .next t) : P t := by
  unfold step at stepped
  split at stepped
  · exact command _ t (answers_of_exec stepped) (queue s _ holds)
  · unfold idle at stepped
    split at stepped
    · exact command s t (answers_of_exec stepped) holds
    · cases stepped
      split
      · exact holds
      · exact time s holds

/-! ### The configuration invariant (R46, R174, R175, R184) -/

theorem Answers.configured {s t : State} (answers : Answers s t) (sound : Configured s) : Configured t := by
  cases answers with
  | finished u orderly => exact (finish_orderly (may := fun _ => False) s u).configured (orderly.configured sound)
  | managed _ kept => exact kept.orderly.configured sound
  | resetAsserted => exact configured_powerOn rfl
  | resetDeasserted straps asserted =>
    rw [deassertReset, if_pos asserted]
    exact sound

/-- Settles O50: every answer of a command keeps the configuration sound, and time does not move it. -/
theorem configurationInvariant : Obligations.ConfigurationInvariant :=
  fun _ _ checked inLine => step_keeps (P := Configured) (fun _ _ => id) (fun _ => id) (fun _ _ => Answers.configured)
    ⟨checked, inLine⟩

/-! ### The starved flags (R56, R177) -/

/-- Outside REGULATE no stream starves (R56). -/
theorem starvedSound_of_regime {s : State} (regime : s.cfg.regime = .pass) : s.StarvedSound := fun k starves => by
  obtain ⟨regulates, _⟩ := (starving_iff s k).mp starves
  rw [regime] at regulates
  cases regulates

theorem Answers.starved {s t : State} (answers : Answers s t) (sound : s.ResetSound ∧ s.StarvedSound) :
    t.ResetSound ∧ t.StarvedSound := by
  obtain ⟨resetSound, flags⟩ := sound
  cases answers with
  | finished u orderly held =>
    refine ⟨fun asserted => ?_, finish_starvedSound s u⟩
    simp only [finish_frame, orderly.reset] at asserted ⊢
    rw [held asserted, resetSound asserted]
  | managed _ kept =>
    refine ⟨fun asserted => ?_, kept.flags flags⟩
    rw [kept.regime, resetSound (kept.orderly.reset ▸ asserted)]
  | resetAsserted => exact ⟨fun _ => rfl, starvedSound_of_regime rfl⟩
  | resetDeasserted straps asserted =>
    rw [deassertReset, if_pos asserted]
    refine ⟨fun again => ?_, starvedSound_of_regime (resetSound asserted)⟩
    simp at again

/-- Settles O58: what follows an event sets the flags (R56), a management command moves none of the conditions, and while RESET#
is asserted the regime is PASS. -/
theorem starvedInvariant : Obligations.StarvedInvariant :=
  fun _ _ resetSound flags => step_keeps (P := fun s => s.ResetSound ∧ s.StarvedSound) (fun _ _ => id) (fun _ => id)
    (fun _ _ => Answers.starved) ⟨resetSound, flags⟩

/-! ### The budget of an issue (R55) -/

/-- A command enters budget-eligible streams only (R55). -/
theorem Answers.owners {s t : State} (answers : Answers s t) {n : EntryId} {k : StreamId} (here : owner t.table[n] = some k) :
    owner s.table[n] = some k ∨ s.budgetOk k = true := by
  cases answers with
  | finished u orderly =>
    simp only [finish_frame] at here
    exact orderly.owners n k here
  | managed _ kept => exact (kept.orderly.owners n k here).imp_right False.elim
  | resetAsserted => simp [assertReset, State.powerOn, owner] at here
  | resetDeasserted straps asserted =>
    rw [deassertReset, if_pos asserted] at here
    exact .inl here

/-- In REGULATE the streams that may issue are the PROTECTED ones and those with a balance of 0 or more (R55). -/
theorem budgetOk_regulate {s : State} {k : StreamId} (regulates : s.cfg.regime = .regulate) (ok : s.budgetOk k = true) :
    s.isProtected k = true ∨ 0 ≤ s.accounts[k].balance := by
  simpa [State.budgetOk, regulates] using ok

/-- Settles O25: an entry that was FREE and names a stream was entered by a grant, which goes to a budget-eligible stream. -/
theorem noIssueBelowZero : Obligations.NoIssueBelowZero := by
  intro c s t answer regulates n flight _ k free active stream
  have here : owner t.table[n] = some k := by rw [active, ← stream]; rfl
  rcases (answers_of_exec answer).owners here with before | ok
  · simp [free, owner] at before
  · exact budgetOk_regulate regulates ok

/-! ### The refill tick (R50, R52) -/

/-- The streams that a tick refills, one condition after the other (R52). -/
theorem refilled_iff (s : State) (k : StreamId) : s.refilled k = true ↔
    s.cfg.regime = .regulate ∧ classOf (s.record k) ≠ .prot ∧ s.cfg.streamState[k] ≠ .off := by
  rw [← isProtected_eq_false_iff]
  simp [State.refilled, and_assoc]

/-- An event of a running device, as a command answers it. -/
theorem next_event {s : State} (running : s.Running) (f : State → State) :
    (Host.Outcome.next (event f s) : Host.Outcome State Fault Refusal) = .next (finish s (f s)) := by
  rw [event_running running]

theorem refillTick_due {s : State} (due : s.refillDue ≤ s.now) : refillTick s = { s with
    accounts := mapAll s.accounts fun k a => if s.refilled k then refill s.gov.rate[k] (s.record k).ceiling.toNat a else a
    refillDue := s.refillDue + s.settings.refillPeriod.toNat * 100 } := if_pos due

theorem refillTick_early {s : State} (early : s.now < s.refillDue) : refillTick s = s := if_neg (Nat.not_le.mpr early)

/-- Settles O26: the tick at its time, account by account, and none before it. -/
theorem refillTick : Obligations.RefillTick := by
  refine fun s running => ⟨fun due => ⟨(Machine.refillTick s).accounts, ?_, fun k => ?_⟩, fun early => ?_⟩
  · exact (next_event running Machine.refillTick).trans (by rw [refillTick_due due])
  · rw [refillTick_due due, mapAll_get]
    simp only [refilled_iff, refill]
  · exact (next_event running Machine.refillTick).trans (by rw [refillTick_early early])

/-! ### The issue (R54, R78, R81, R98, R121) -/

/-- The counts that one issue raises (R121), in the terms of the statement. -/
theorem acc_issue_eq (kind : Kind) (bytes : Nat) : Acc.issue kind bytes = fun a => { a with counts := { a.counts with
    bytes := min 4294967295 (a.counts.bytes + bytes)
    reads := if kind = .read then min 4294967295 (a.counts.reads + 1) else a.counts.reads
    writes := if kind = .write then min 4294967295 (a.counts.writes + 1) else a.counts.writes } } := by
  cases kind <;> rfl

/-- What a charge changes, stream by stream (R54). -/
theorem charge_eq (k : StreamId) (bytes : Nat) (s : State) : charge k bytes s = { s with
    accounts :=
      if s.cfg.regime = .regulate ∧ s.isProtected k = false then
        putAt s.accounts k { s.accounts[k] with balance := s.accounts[k].balance - bytes }
      else s.accounts } := by
  unfold charge
  split <;> rfl

/-- A transaction leaves its queue: the ones before it stay, and each WAITING one after it that conflicts with it loses a guard
(R78). -/
theorem leaveQueue_issued (before : List Held) (h : Held) (after : List Held) (waiting : h.state = .waiting)
    (oldest : ∀ g ∈ before, ¬ (g.state = .waiting ∧ g.pair = h.pair)) :
    leaveQueue (fun _ => []) h.pair (before ++ h :: after) = before ++ after.map fun t =>
      if t.state = .waiting ∧ conflicts h.req h.stream t.req t.stream = true then { t with guards := t.guards - 1 } else t := by
  induction before with
  | nil =>
    have released : releaseGuard h = fun t => if t.state = .waiting ∧ conflicts h.req h.stream t.req t.stream = true then
        { t with guards := t.guards - 1 } else t := funext fun t => by simp [releaseGuard, Held.isWaiting]
    simp [leaveQueue, Held.isWaiting, waiting, released]
  | cons g before ih =>
    have stays : (g.isWaiting && g.pair == h.pair) = false := by
      simpa [Held.isWaiting] using oldest g List.mem_cons_self
    rw [List.cons_append, leaveQueue, stays, ih fun x hx => oldest x (List.mem_cons_of_mem g hx)]
    rfl

/-- A grant and its issue, when the conditions of R92 hold (R98). -/
theorem issueGrant_of_grant {s : State} {n : EntryId} {k : StreamId} {arb : Arbiter} {h : Held} (can : s.CanIssue)
    (lowest : s.LowestFree n) (granted : s.grant = some (k, arb)) (head : s.queueHead k = some h) :
    issueGrant s = issueHead h arb n s := by
  simp only [issueGrant, (portOpen_iff s).mpr can, firstFree_of_lowest lowest, granted, head]

/-- No grant when the port is closed, no entry is FREE or no stream is eligible (R92). -/
theorem issueGrant_none {s : State}
    (fails : ¬ s.CanIssue ∨ (∀ n : EntryId, s.table[n] ≠ .free) ∨ s.grant = none) : issueGrant s = s := by
  unfold issueGrant
  split
  · next n k arb port first granted =>
    rcases fails with closed | full | none_eligible
    · exact absurd ((portOpen_iff s).mp port) closed
    · exact absurd ((isFree_iff _).mp (firstFree_isFree first)) (full n)
    · rw [none_eligible] at granted
      cases granted
  · rfl

/-- Settles O24: the grant and its issue, the conditions of R92, the queue that the head leaves, and the PASS path. -/
theorem issueEvent : Obligations.IssueEvent := by
  refine ⟨fun n k arb h s can lowest granted head => ?_, fun s running fails => ?_, leaveQueue_issued, fun n req s => ?_⟩
  · obtain ⟨_, rfl, _⟩ := queueHead_mem head
    refine (next_event can.1 issueGrant).trans ?_
    rw [issueGrant_of_grant can lowest granted head, issueHead, sendDown, acc_issue_eq, charge_eq]
    rfl
  · exact (next_event running issueGrant).trans (by rw [issueGrant_none fails])
  · rw [sendDown, acc_issue_eq]
    rfl

/-! ### What an applied commit does to the accounts and the rates (R48, R50, R57, R59, R60, R150 to R155) -/

/-- A commit regulates afterwards exactly when it asks for REGULATE (R178). -/
theorem regimeAfter_eq_regulate_iff (before : Regime) (request empty : Bool) :
    regimeAfter before request empty = .regulate ↔ request = true := by
  cases request <;> cases before <;> cases empty <;> simp [regimeAfter]

theorem enters_iff (before after : Regime) : enters before after = true ↔ before ≠ .regulate ∧ after = .regulate := by
  simp [enters]

theorem leaves_iff (before after : Regime) : leaves before after = true ↔ before = .regulate ∧ after ≠ .regulate := by
  simp [leaves]

/-- The entry stage after a commit leaves the accounts, the refill timer and the governor alone. -/
theorem reexamine_frame (before : Regime) (s : State) : (reexamine before s).accounts = s.accounts ∧
    (reexamine before s).refillDue = s.refillDue ∧ (reexamine before s).gov = s.gov := by
  unfold reexamine
  split
  · split
    · simp
    split
    · simp
    split <;> simp
  all_goals simp

/-- A list of operations that leave a part of the state alone leaves it alone. -/
theorem foldl_keeps {α β : Type} {f : State → α → State} (part : State → β) (each : ∀ s a, part (f s a) = part s) :
    ∀ (l : List α) (s : State), part (l.foldl f s) = part s
  | [], _ => rfl
  | a :: l, s => (foldl_keeps part each l (f s a)).trans (each s a)

theorem commitHolds_frame (old : Settings) (s : State) : (commitHolds old s).accounts = s.accounts ∧
    (commitHolds old s).refillDue = s.refillDue ∧ (commitHolds old s).gov = s.gov :=
  ⟨foldl_keeps State.accounts (by simp) _ s, foldl_keeps State.refillDue (by simp) _ s, foldl_keeps State.gov (by simp) _ s⟩

theorem commitTimeouts_frame (old : Settings) (s : State) : (commitTimeouts old s).accounts = s.accounts ∧
    (commitTimeouts old s).refillDue = s.refillDue ∧ (commitTimeouts old s).gov = s.gov := by
  unfold commitTimeouts
  split
  · simp
  · exact ⟨foldl_keeps State.accounts (by simp) _ s, foldl_keeps State.refillDue (by simp) _ s,
      foldl_keeps State.gov (by simp) _ s⟩

theorem commitHolds_config (old : Settings) (s : State) : SameConfig s (commitHolds old s) :=
  .foldl expireHeld_config _ s

theorem commitTimeouts_config (old : Settings) (s : State) : SameConfig s (commitTimeouts old s) := by
  unfold commitTimeouts
  split
  · exact .of_eq ⟨rfl, rfl, rfl, rfl⟩
  · exact .foldl expireEntry_config _ s

/-- The regime that an applied commit goes to (R178). -/
def committedRegime (s : State) : Regime :=
  regimeAfter s.cfg.regime (requestsRegulate s.cfg.staged.global) s.pool.isEmpty

/-- A commit asks for REGULATE by its regime request (R176). -/
theorem committedRegime_eq_regulate_iff (s : State) :
    committedRegime s = .regulate ↔ s.cfg.staged.global.regimeRequest = 1 := by
  rw [committedRegime, regimeAfter_eq_regulate_iff]
  simp [requestsRegulate]

/-- The accounts, the refill timer, the governor and the active copy of an applied commit are those of its settings: what
follows them in the event leaves them alone (R187). -/
theorem applyCommit_settings (s : State) :
    (∀ k : StreamId, (applyCommit s).accounts[k] = commitAccount s.cfg.regime (committedRegime s)
      (s.cfg.streamState[k] == .off) s.cfg.active.streams[k] s.cfg.staged.streams[k] s.accounts[k]) ∧
    (applyCommit s).refillDue = (if s.settings.refillPeriod = s.cfg.staged.global.refillPeriod then s.refillDue
      else s.now + s.cfg.staged.global.refillPeriod.toNat * 100) ∧
    (applyCommit s).gov = commitGovernor s.cfg.regime (committedRegime s) s.cfg.active s.cfg.staged s.gov ∧
    (applyCommit s).cfg.active = s.cfg.staged := by
  refine ⟨fun k => ?_, ?_, ?_, ?_⟩
  · simp only [applyCommit, commitTimeouts_frame, commitHolds_frame, reexamine_frame, finishCommand_frame, commitEpoch_frame]
    exact mapAll_get _ _ k
  · simp only [applyCommit, commitTimeouts_frame, commitHolds_frame, reexamine_frame, finishCommand_frame, commitEpoch_frame]
    rfl
  · simp only [applyCommit, commitTimeouts_frame, commitHolds_frame, reexamine_frame, finishCommand_frame, commitEpoch_frame]
    rfl
  · have later := ((reexamine_config s.cfg.regime
      (finishCommand .done .ok .none (commitEpoch (applySettings s.cfg.staged (committedRegime s) s)))).trans
        (commitHolds_config s.cfg.active _)).trans (commitTimeouts_config s.cfg.active _)
    obtain ⟨_, active, _⟩ := later (pendingCode_of_idle (by simp [finishCommand, raiseGlobal]) _)
    rw [applyCommit, ← committedRegime, active]
    simp only [finishCommand_frame, commitEpoch_frame, applySettings_cfg]

/-- A PENDING COMMIT at its boundary that passes the boundary checks is applied (R185 to R187). -/
theorem commitEvent_applied {s t : State} (running : s.Running) (pending : s.pendingCode 0x01 = true)
    (boundary : s.cfg.slot.judgeAt ≤ s.now) (passes : boundaryFailure s = none) (answer : exec .commitEvent s = .next t) :
    t = finish s (applyCommit s) := by
  have due : s.commitDue = true := Bool.and_eq_true_iff.mpr ⟨pending, decide_eq_true boundary⟩
  have applied : judgeCommit s = applyCommit s := by rw [judgeCommit, if_pos due, passes]
  have answered : exec .commitEvent s = .next (finish s (judgeCommit s)) := next_event running judgeCommit
  rw [answered, applied] at answer
  cases answer
  rfl

/-- The account of a PROTECTED stream is empty (R48). -/
theorem commitAccount_protected {before after : Regime} {wasOff : Bool} {old new : StreamRecord} {a : Account}
    (cls : classOf new = .prot) : commitAccount before after wasOff old new a = { balance := 0, starved := false } := by
  simp [commitAccount, cls]

/-- The balance of another stream is set to its new ceiling or held to it, and its flag stands (R57, R59, R60). -/
theorem commitAccount_unprotected {before after : Regime} {wasOff : Bool} {old new : StreamRecord} {a : Account}
    (cls : classOf new ≠ .prot) : commitAccount before after wasOff old new a = { a with
      balance := if classOf old = .prot ∨ (before ≠ .regulate ∧ after = .regulate) ∨
          (before = .regulate ∧ after = .regulate ∧ wasOff = true ∧ requestsOn new = true)
        then (new.ceiling.toNat : Int) else min a.balance new.ceiling.toNat } := by
  simp only [commitAccount, cls, if_false, enters_iff]
  split <;> rfl

/-- The rate fields that a commit may touch (R153). -/
theorem rateFieldsChanged_iff (old new : StreamRecord) : rateFieldsChanged old new = true ↔
    old.mode ≠ new.mode ∨ old.configured ≠ new.configured ∨ old.floor ≠ new.floor ∨ old.maxRate ≠ new.maxRate := by
  simp [rateFieldsChanged, or_assoc]

/-- The settings of the target miss that a commit may touch (R155). -/
theorem missSettingsChanged_iff (old new : GlobalSettings) : missSettingsChanged old new = true ↔
    old.cruiseTarget ≠ new.cruiseTarget ∨ old.cruiseTolerance ≠ new.cruiseTolerance ∨ old.missCount ≠ new.missCount := by
  simp [missSettingsChanged, or_assoc]

/-- A commit that enters or leaves REGULATE starts the governor afresh (R152). -/
theorem commitGovernor_crossing {before after : Regime} (crossing : ¬ (before = .regulate ↔ after = .regulate))
    (old new : Settings) (g : Governor) : commitGovernor before after old new g =
      { rate := mapAll g.rate fun k _ => startRate new.streams[k]
        miss := Vector.replicate 16 0
        hotFilter := 0
        pressure := .normal } := by
  refine if_pos ?_
  rw [Bool.or_eq_true, enters_iff, leaves_iff]
  tauto

/-- Any other commit keeps the pressure state and the HOT filter (R150, R153, R155). -/
theorem commitGovernor_staying {before after : Regime} (staying : before = .regulate ↔ after = .regulate)
    (old new : Settings) (g : Governor) : commitGovernor before after old new g =
      { g with
        rate := mapAll g.rate fun k rate => commitRate g.pressure old.streams[k] new.streams[k] rate
        miss := mapAll g.miss fun k c =>
          if missSettingsChanged old.global new.global || rateFieldsChanged old.streams[k] new.streams[k] then 0 else c } := by
  refine if_neg ?_
  rw [Bool.or_eq_true, enters_iff, leaves_iff]
  tauto

/-- Settles O35: what follows the settings in the commit event, and the epilogue, leave the accounts but for the starved flags,
the refill timer and the governor alone, so they are what `commitAccount` and `commitGovernor` make of them. -/
theorem commitAccountsAndRates : Obligations.CommitAccountsAndRates := by
  intro s t k running pending boundary passes answer old new was asked a ceiling start touched retargeted
  obtain rfl := commitEvent_applied running pending boundary passes answer
  obtain ⟨accounts, refillDue, gov, active⟩ := applyCommit_settings s
  have asks : committedRegime s = .regulate ↔ asked := committedRegime_eq_regulate_iff s
  have record : (applyCommit s).record k = new := by rw [State.record, active]
  refine ⟨by simpa using refillDue, fun cls => ?_, fun cls => ?_, fun crossing => ?_, fun staying => ?_⟩
  · have sated : (applyCommit s).starving k = false := by
      simp [Bool.eq_false_iff, starving_iff, record, cls]
    rw [finish_account, sated, accounts, commitAccount_protected cls]
    rfl
  · rw [finish_starving, finish_account, accounts, commitAccount_unprotected cls]
    simp only [asks, beq_iff_eq]
    cases (applyCommit s).starving k <;> simp [was, asked, old, new, a, ceiling]
  · have changes : ¬ (s.cfg.regime = .regulate ↔ committedRegime s = .regulate) := by rw [asks]; tauto
    simp only [finish_frame, gov, commitGovernor_crossing changes, mapAll_get]
    exact ⟨trivial, trivial, by simp, rfl⟩
  · simp only [finish_frame, gov, commitGovernor_staying (staying.trans asks.symm), mapAll_get, Bool.or_eq_true,
      rateFieldsChanged_iff, missSettingsChanged_iff]
    refine ⟨trivial, trivial, rfl, fun normal => ?_, fun emergency => ?_⟩
    · simp only [commitRate, normal, rateFieldsChanged_iff]
      rfl
    · simp only [commitRate, emergency]
      cases classOf new with
      | prot =>
        simp only [rateFieldsChanged_iff]
        rfl
      | paced => rfl
      | bulk => rfl

end Sys2Proof.Machine.StreamAccounts

/-! The hold pool: the placement test and what a placement changes (R62 to R66, R76, R77, R86), the drain reports (R82, R84,
R191), the expiry of a hold timer (R72, R73, R78), and what every step keeps of the guard counts (R78) and of the slot limits
(R62, R64). -/

namespace Sys2Proof.Machine.HoldPool

open StreamAccounts (next_event refuse_keeps retireInCopy_stream retireInCopy_window retireInCopy_stream_keeps)

/-! ### The placement test (R62, R64, R65, R67) -/

/-- The acceptance sequence counter has caught up with the transaction at the head of the pool (R67). -/
theorem caughtUp_iff (s : State) :
    s.caughtUp = true ↔ ∃ h rest, s.pool = h :: rest ∧ h.acceptNo = s.acceptCtr := by
  unfold State.caughtUp
  cases s.pool with
  | nil => simp
  | cons h rest => simp

/-- The three conditions of R65. -/
theorem placementOk_iff (s : State) (k : StreamId) : s.placementOk k = true ↔
    s.used k < (s.record k).maxSlots.toNat ∧
      (s.used k < (s.record k).reserved.toNat ∨ sharedInUse s.cfg.active s.pool < sharedSize s.cfg.active) ∧
      ¬ ∃ h rest, s.pool = h :: rest ∧ h.acceptNo = s.acceptCtr := by
  rw [← caughtUp_iff]
  simp [State.placementOk, and_assoc]

/-- The occupancy of a stream as a number of transactions (R62). -/
theorem usedIn_eq_length (pool : List Held) (k : StreamId) :
    usedIn pool k = (pool.filter fun h => decide (h.stream = k)).length := List.countP_eq_length_filter

theorem sharedInUse_eq (c : Settings) (pool : List Held) : sharedInUse c pool = ((List.finRange 16).map fun k =>
    (pool.filter fun h => decide (h.stream = k)).length - c.streams[k].reserved.toNat).sum := by
  simp only [sharedInUse, usedIn_eq_length, allStreams]

/-- The conditions of a conflict, one by one (R76). -/
theorem conflicts_iff (a b : Request) (j k : StreamId) : conflicts a j b k = true ↔
    a.initiator = b.initiator ∧ j ≠ k ∧ (a.kind = .write ∨ b.kind = .write) ∧
      ∃ byte : Nat, a.address.toNat ≤ byte ∧ byte < a.address.toNat + a.beats.val * 16 ∧
        b.address.toNat ≤ byte ∧ byte < b.address.toNat + b.beats.val * 16 := by
  rw [← overlaps_iff]
  simp only [conflicts, Bool.and_eq_true, Bool.or_eq_true, beq_iff_eq, bne_iff_ne]
  tauto

/-! ### Guard counts (R77, R78) -/

theorem guardCount_append (l m : List Held) (r : Request) (k : StreamId) :
    guardCount (l ++ m) r k = guardCount l r k + guardCount m r k := List.countP_append

theorem guardCount_singleton (h : Held) (r : Request) (k : StreamId) :
    guardCount [h] r k = if h.guardsReq r k then 1 else 0 := List.countP_singleton

/-- Only WAITING transactions guard (R77). -/
theorem guardCount_of_none_waiting {l : List Held} (none_waiting : ∀ h ∈ l, h.isWaiting = false) (r : Request)
    (k : StreamId) : guardCount l r k = 0 :=
  List.countP_eq_zero.mpr fun h member => by simp [Held.guardsReq, none_waiting h member]

/-- The loss of a guard does not change what a transaction guards itself. -/
theorem releaseGuard_guardsReq (h t : Held) (r : Request) (k : StreamId) :
    (releaseGuard h t).guardsReq r k = t.guardsReq r k := by simp [Held.guardsReq]

theorem guardsSound_append (older l m : List Held) :
    guardsSound older (l ++ m) ↔ guardsSound older l ∧ guardsSound (older ++ l) m := by
  induction l generalizing older with
  | nil => simp [guardsSound]
  | cons h l ih => simp [guardsSound, ih, and_assoc]

/-- Nothing is said of the guard counts of EXPIRED transactions (R78). -/
theorem guardsSound_of_none_waiting {l : List Held} (none_waiting : ∀ h ∈ l, h.isWaiting = false) (older : List Held) :
    guardsSound older l := by
  induction l generalizing older with
  | nil => trivial
  | cons h l ih =>
    refine ⟨fun waiting => ?_, ih (fun g member => none_waiting g (List.mem_cons_of_mem h member)) _⟩
    simp [none_waiting h List.mem_cons_self] at waiting

/-- When a WAITING transaction `h` leaves the older ones, those it guarded lose one guard each (R78). -/
theorem guardsSound_release {h : Held} (after : List Held) {older rest : List Held}
    (without : ∀ r k, guardCount older r k = guardCount rest r k + if conflicts h.req h.stream r k then 1 else 0)
    (sound : guardsSound older after) : guardsSound rest (after.map (releaseGuard h)) := by
  induction after generalizing older rest with
  | nil => trivial
  | cons t after ih =>
    obtain ⟨count, later⟩ := sound
    refine ⟨fun waiting => ?_, ih (fun r k => ?_) later⟩
    · simp only [releaseGuard_keeps] at waiting ⊢
      have guards := (count waiting).trans (without t.req t.stream)
      by_cases conflict : conflicts h.req h.stream t.req t.stream = true <;> simp [releaseGuard, waiting, conflict, guards]
    · simp only [guardCount_append, guardCount_singleton, releaseGuard_guardsReq, without]
      omega

/-- The counts of the younger stand when transactions that are not WAITING leave (R74). -/
theorem guardsSound_filter {keep : Held → Bool} (keeps : ∀ h : Held, h.isWaiting = true → keep h = true) (pool : List Held)
    {older rest : List Held} (same : ∀ r k, guardCount older r k = guardCount rest r k) (sound : guardsSound older pool) :
    guardsSound rest (pool.filter keep) := by
  induction pool generalizing older rest with
  | nil => trivial
  | cons h pool ih =>
    obtain ⟨count, later⟩ := sound
    cases kept : keep h with
    | true =>
      rw [List.filter_cons_of_pos kept]
      exact ⟨fun waiting => (count waiting).trans (same _ _), ih (fun r k => by simp only [guardCount_append, same]) later⟩
    | false =>
      rw [List.filter_cons_of_neg (by simp [kept])]
      have gone : h.isWaiting = false := by
        by_contra waiting
        simp [keeps h (by simpa using waiting)] at kept
      exact ih (fun r k => by simp [guardCount_append, guardCount_singleton, Held.guardsReq, gone, same]) later

/-- A transaction placed at the tail gets the number of its guards (R66, R77). -/
theorem guardsSound_placed {pool : List Held} {h : Held} (guards : h.guards = guardCount pool h.req h.stream)
    (sound : guardsSound [] pool) : guardsSound [] (pool ++ [h]) :=
  (guardsSound_append _ _ _).mpr ⟨sound, fun _ => guards, trivial⟩

/-- A transaction leaves its queue with nothing WAITING left in its place, and releases its guards (R73, R78, R81). -/
theorem guardsSound_leaveQueue {stay : Held → List Held} (idle : ∀ h, ∀ g ∈ stay h, g.isWaiting = false) (p : TagPair)
    {pool : List Held} (sound : guardsSound [] pool) : guardsSound [] (leaveQueue stay p pool) := by
  rcases leaveQueue_split stay p pool with same | ⟨before, h, after, rfl, waiting, _, left⟩
  · rwa [same]
  · rw [left, List.append_assoc, guardsSound_append]
    obtain ⟨olderSound, _, youngerSound⟩ := (guardsSound_append _ _ _).mp sound
    refine ⟨olderSound, (guardsSound_append _ _ _).mpr ⟨guardsSound_of_none_waiting (idle h) _,
      guardsSound_release after ?_ youngerSound⟩⟩
    intro r k
    simp [guardCount_append, guardCount_singleton, Held.guardsReq, waiting, guardCount_of_none_waiting (idle h)]

/-! ### Slots (R62, R64) -/

/-- The transactions of a pool fit the slots of a configuration (R62, R64). -/
def SlotsFit (c : Settings) (pool : List Held) : Prop :=
  (∀ k : StreamId, usedIn pool k ≤ c.streams[k].maxSlots.toNat) ∧ sharedInUse c pool ≤ sharedSize c

theorem slotsSound_iff (s : State) : s.SlotsSound ↔ SlotsFit s.cfg.active s.pool := Iff.rfl

/-- The occupancy of a stream is the number of times it stands in the list of the streams of the pool. -/
theorem usedIn_eq_count (pool : List Held) (k : StreamId) : usedIn pool k = (pool.map (·.stream)).count k := by
  simp [usedIn, List.count, List.countP_map, Function.comp_def]

theorem usedIn_append_singleton (pool : List Held) (h : Held) (k : StreamId) :
    usedIn (pool ++ [h]) k = usedIn pool k + if k = h.stream then 1 else 0 := by
  simp only [usedIn, List.countP_append, List.countP_singleton, beq_iff_eq, eq_comm (a := k)]

theorem sharedInUse_eq_sum (c : Settings) (pool : List Held) :
    sharedInUse c pool = ∑ k : StreamId, (usedIn pool k - c.streams[k].reserved.toNat) := (Fin.sum_univ_def _).symm

theorem reservedTotal_eq_sum (c : Settings) : reservedTotal c = ∑ k : StreamId, c.streams[k].reserved.toNat :=
  (Fin.sum_univ_def _).symm

/-- The occupancies of the sixteen streams make up the pool (R62). -/
theorem length_eq_sum_usedIn (pool : List Held) : pool.length = ∑ k : StreamId, usedIn pool k := by
  simp only [usedIn_eq_count, ← Multiset.coe_count]
  rw [Multiset.sum_count_eq_card fun _ _ => Finset.mem_univ _]
  simp

theorem SlotsFit.nil (c : Settings) : SlotsFit c [] := by simp [SlotsFit, usedIn, sharedInUse]

/-- A pool that holds no stream more often fits where the larger one did. -/
theorem SlotsFit.mono {c : Settings} {pool smaller : List Held} (le : ∀ k, usedIn smaller k ≤ usedIn pool k)
    (fit : SlotsFit c pool) : SlotsFit c smaller := by
  obtain ⟨slots, shared⟩ := fit
  refine ⟨fun k => (le k).trans (slots k), le_trans ?_ shared⟩
  rw [sharedInUse_eq_sum, sharedInUse_eq_sum]
  exact Finset.sum_le_sum fun k _ => Nat.sub_le_sub_right (le k) _

/-- Of a configuration the slots read the max slots and the reservation of each stream. -/
theorem SlotsFit.congr {c d : Settings} {pool : List Held}
    (same : ∀ k : StreamId, d.streams[k].maxSlots = c.streams[k].maxSlots ∧ d.streams[k].reserved = c.streams[k].reserved)
    (fit : SlotsFit c pool) : SlotsFit d pool := by
  simpa only [SlotsFit, sharedInUse_eq_sum, sharedSize, reservedTotal_eq_sum, same] using fit

/-- One more transaction of stream `k` takes a shared slot exactly when the reservation of `k` is used up (R64). -/
theorem sharedInUse_placed (c : Settings) (pool : List Held) (h : Held) : sharedInUse c (pool ++ [h]) =
    sharedInUse c pool + if c.streams[h.stream].reserved.toNat ≤ usedIn pool h.stream then 1 else 0 := by
  have each (k : StreamId) : usedIn (pool ++ [h]) k - c.streams[k].reserved.toNat = usedIn pool k - c.streams[k].reserved.toNat +
      if k = h.stream then (if c.streams[h.stream].reserved.toNat ≤ usedIn pool h.stream then 1 else 0) else 0 := by
    rw [usedIn_append_singleton]
    by_cases own : k = h.stream
    · subst own
      simp only [if_true]
      split <;> omega
    · simp [own]
  simp only [sharedInUse_eq_sum, each, Finset.sum_add_distrib, Finset.sum_ite_eq', Finset.mem_univ, if_true]

/-- The placement test keeps the slots (R65). -/
theorem SlotsFit.placed {s : State} {h : Held} (ok : s.placementOk h.stream = true) (fit : SlotsFit s.cfg.active s.pool) :
    SlotsFit s.cfg.active (s.pool ++ [h]) := by
  obtain ⟨free, reservedOrShared, _⟩ := (placementOk_iff s h.stream).mp ok
  obtain ⟨slots, shared⟩ := fit
  refine ⟨fun k => ?_, ?_⟩
  · rw [usedIn_append_singleton]
    split
    · next own => subst own; exact free
    · exact slots k
  · rw [sharedInUse_placed]
    split
    · next full =>
      rcases reservedOrShared with reserved | room
      · exact absurd reserved (Nat.not_lt.mpr full)
      · exact room
    · rwa [Nat.add_zero]

/-- A transaction that leaves its queue, with at most itself staying, adds to no stream (R62). -/
theorem usedIn_leaveQueue_le {stay : Held → List Held} (keeps : ∀ h, ((stay h).map (·.stream)).Sublist [h.stream])
    (p : TagPair) (pool : List Held) (k : StreamId) : usedIn (leaveQueue stay p pool) k ≤ usedIn pool k := by
  rcases leaveQueue_split stay p pool with same | ⟨before, h, after, rfl, _, _, left⟩
  · rw [same]
  · have streams : (after.map (releaseGuard h)).map (·.stream) = after.map (·.stream) := by simp [Function.comp_def]
    rw [left, usedIn_eq_count, usedIn_eq_count]
    refine List.Sublist.count_le k ?_
    simp only [List.append_assoc, List.map_append, List.map_cons, streams]
    exact (List.Sublist.refl _).append ((keeps h).append (List.Sublist.refl _))

theorem usedIn_dropExpired_le (p : TagPair) (pool : List Held) (k : StreamId) :
    usedIn (dropExpired p pool) k ≤ usedIn pool k := List.filter_sublist.countP_le

/-- The boundary checks of a COMMIT let pass only a copy whose slots the pool fits (R186). -/
theorem slotsFit_of_boundary {s : State} (passes : boundaryFailure s = none) : SlotsFit s.cfg.staged s.pool := by
  simp only [boundaryFailure, Option.or_eq_none_iff, Option.map_eq_none_iff, List.find?_eq_none, decide_eq_true_eq,
    Nat.not_lt, globalPlace, ite_eq_left_iff, reduceCtorEq, imp_false, not_not] at passes
  obtain ⟨slots, _, shared⟩ := passes
  exact ⟨fun k => slots k (List.mem_finRange k), shared⟩

/-- The reserved slots and the shared slots make up the 64 slots of the pool (R62, R64). -/
theorem length_le_of_slotsFit {c : Settings} {pool : List Held} (reserved : reservedTotal c ≤ 64) (fit : SlotsFit c pool) :
    pool.length ≤ 64 := by
  obtain ⟨_, shared⟩ := fit
  rw [sharedSize, Config.holdSlots] at shared
  have held : pool.length ≤ reservedTotal c + sharedInUse c pool := by
    rw [length_eq_sum_usedIn, reservedTotal_eq_sum, sharedInUse_eq_sum, ← Finset.sum_add_distrib]
    exact Finset.sum_le_sum fun k _ => by omega
  omega

/-! ### What a placement changes (R66, R77, R86) -/

/-- The transaction that a placement adds (R66). -/
def placedHeld (req : Request) (k : StreamId) (s : State) : Held :=
  { req := req, stream := k, acceptNo := s.acceptCtr, placedAt := s.now
    guards := (s.pool.filter fun g => g.state == .waiting && conflicts g.req g.stream req k).length, state := .waiting }

theorem place_eq (req : Request) (k : StreamId) (s : State) : place req k s =
    setPool (s.pool ++ [placedHeld req k s]) { s with acceptCtr := s.acceptCtr + 1, stage := .empty } := by
  simp only [place, placedHeld, guardCount, List.countP_eq_length_filter, Held.guardsReq, Held.isWaiting]

/-- A placement changes the pool, the acceptance counter, the entry stage and the peaks (R66). -/
theorem place_changes (req : Request) (k : StreamId) (s : State) : place req k s = { s with
    pool := s.pool ++ [placedHeld req k s]
    acceptCtr := s.acceptCtr + 1
    stage := .empty
    mon := { s.mon with acc := (place req k s).mon.acc, gacc := (place req k s).mon.gacc } } := by
  rw [place_eq]
  rfl

/-- The peak of the stream that gains a slot takes its new occupancy (R86). -/
theorem place_acc (req : Request) (k j : StreamId) (s : State) : (place req k s).mon.acc[j] =
    if j = k then { s.mon.acc[k] with counts := { s.mon.acc[k].counts with
      peak := max s.mon.acc[k].counts.peak (s.used k + 1) } }
    else s.mon.acc[j] := by
  rw [place_eq, setPool_acc, usedIn_append_singleton]
  by_cases own : j = k
  · subst own
    simp [placedHeld, Acc.offerPeak, State.used]
  · simp [placedHeld, own]

/-- The pool peak takes the new size of the pool (R86). -/
theorem place_gacc (req : Request) (k : StreamId) (s : State) : (place req k s).mon.gacc =
    { s.mon.gacc with counts := { s.mon.gacc.counts with peak := max s.mon.gacc.counts.peak (s.pool.length + 1) } } := by
  rw [place_eq, setPool_gacc]
  simp [Acc.offerPeak]

/-- The placed transaction is the head of a queue that was empty (R63, R66). -/
theorem place_queueHead {req : Request} {k : StreamId} {s : State} (empty : s.queueHead k = none) :
    (place req k s).queueHead k = some (placedHeld req k s) := by
  have head : (placedHeld req k s).stream = k ∧ (placedHeld req k s).isWaiting = true := ⟨rfl, rfl⟩
  rw [place_eq]
  show List.find? _ (s.pool ++ [placedHeld req k s]) = _
  rw [State.queueHead] at empty
  rw [List.find?_append, empty]
  simp [head]

/-- Settles O11: the placement test and the conflict as their conditions, and a placement field by field. -/
theorem placementTestAndEffect : Obligations.PlacementTestAndEffect :=
  ⟨placementOk_iff, conflicts_iff, fun s => usedIn_eq_length s.pool, sharedInUse_eq, fun req k s =>
    ⟨place_changes req k s, fun j => place_acc req k j s, place_gacc req k s, place_queueHead⟩⟩

/-! ### POOL_EMPTY (R82) -/

/-- An event of a running device that makes `t` of its state, as a command answers it. -/
theorem next_event_of_eq {f : State → State} {s t : State} (running : s.Running) (makes : f s = t) :
    (Host.Outcome.next (event f s) : Host.Outcome State Fault Refusal) = .next (finish s t) := by
  rw [next_event running, makes]

/-- With the pool empty DRAINING becomes PASS, and the entry stage stays unless it waits for the drain (R82). -/
theorem checkPoolEmpty_drained {s : State} (draining : s.cfg.regime = .draining) (empty : s.pool = [])
    (other : ∀ req reg, s.stage ≠ .waitDrain req reg) :
    checkPoolEmpty s = { s with cfg := { s.cfg with regime := .pass } } := by
  unfold checkPoolEmpty
  rw [if_pos ⟨draining, empty⟩]
  split
  · next waits => exact absurd waits (other _ _)
  all_goals rfl

/-- A request that waits for the drain goes on along the PASS path (R82). -/
theorem checkPoolEmpty_waiting {s : State} {req : Request} {reg : Bool} (draining : s.cfg.regime = .draining)
    (empty : s.pool = []) (waits : s.stage = .waitDrain req reg) :
    checkPoolEmpty s = passPath req reg { s with cfg := { s.cfg with regime := .pass } } := by
  unfold checkPoolEmpty
  rw [if_pos ⟨draining, empty⟩]
  simp only [waits]

/-- Outside DRAINING, or while a transaction is held, the report changes nothing (R82). -/
theorem checkPoolEmpty_idle {s : State} (other : s.cfg.regime ≠ .draining ∨ s.pool ≠ []) : checkPoolEmpty s = s :=
  if_neg fun ⟨draining, empty⟩ => other.elim (· draining) (· empty)

/-! ### RETIREMENT_COMPLETION (R84, R191) -/

/-- ACTIVE and EXPIRING entries are resident (R100). -/
theorem resident_iff (e : Entry) (f : Flight) :
    e.resident = some f ↔ (∃ l, e = .active f l) ∨ ∃ c, e = .expiring f c := by
  cases e <;> simp [Entry.resident]

theorem pendingCode_iff (s : State) (code : Byte) :
    s.pendingCode code = true ↔ s.cfg.slot.state = .pending ∧ s.cfg.slot.code = code := by simp [State.pendingCode]

/-- A stream is drained when it has no slot and no resident entry (R84). -/
theorem drained_iff (s : State) (k : StreamId) : s.drained k = true ↔
    s.used k = 0 ∧ ∀ (n : EntryId) (t : Flight), s.table[n].resident = some t → t.stream ≠ some k := by
  simp only [State.drained, Bool.and_eq_true, beq_iff_eq, List.all_eq_true, allEntries, List.mem_finRange, forall_const]
  refine and_congr_right fun _ => forall_congr' fun n => ?_
  cases s.table[n].resident <;> simp

/-- The one RETIRING stream of a PENDING RETIRE is the one that reports its drain (R84). -/
theorem retiringStream_eq {s : State} {k : StreamId} (pending : s.pendingCode 0x04 = true)
    (retiring : s.cfg.streamState[k] = .retiring) (only : ∀ j : StreamId, s.cfg.streamState[j] = .retiring → j = k) :
    s.retiringStream = some k := by
  rw [State.retiringStream, if_pos pending]
  cases found : allStreams.find? fun j => s.cfg.streamState[j] == .retiring with
  | none => simpa [retiring] using List.find?_eq_none.mp found k (List.mem_finRange k)
  | some j => rw [only j (by simpa using List.find?_some found)]

/-- The drain of the RETIRING stream completes its retirement (R84, R191). -/
theorem checkDrained_drained {s : State} {k : StreamId} (reports : s.retiringStream = some k)
    (drained : s.drained k = true) : checkDrained s = completeRetirement k s := by
  simp only [checkDrained, reports, drained, if_true]

/-- A RETIRING stream that is not drained yet goes on (R84). -/
theorem checkDrained_waiting {s : State} {k : StreamId} (reports : s.retiringStream = some k)
    (waiting : ¬ s.drained k = true) : checkDrained s = s := by
  simp [checkDrained, reports, waiting]

/-- With no RETIRING stream under a PENDING RETIRE none reports its drain (R84). -/
theorem checkDrained_none {s : State}
    (idle : s.pendingCode 0x04 = false ∨ ∀ k : StreamId, s.cfg.streamState[k] ≠ .retiring) : checkDrained s = s := by
  rcases checkDrained_cases s with same | ⟨k, reported, _⟩
  · exact same
  · obtain ⟨pending, retiring⟩ := StreamAccounts.retiringStream_spec reported
    rcases idle with none_pending | none_retiring
    · rw [none_pending] at pending
      cases pending
    · exact absurd retiring (none_retiring k)

/-- A retirement in a copy of the configuration, part by part (R40, R191). -/
theorem retireInCopy_parts (k : StreamId) (c : Settings) :
    (retireInCopy k c).global = (if c.global.missStream.toNat = k.val then { c.global with missPolicy := 1 } else c.global) ∧
    (∀ j : StreamId, (retireInCopy k c).streams[j] = if j = k then { c.streams[k] with stateRequest := 0 } else c.streams[j]) ∧
    ∀ n : WindowId, (retireInCopy k c).windows[n] =
      if c.windows[n].stream.toNat = k.val then { c.windows[n] with valid := false } else c.windows[n] := by
  refine ⟨rfl, fun j => ?_, fun n => retireInCopy_window k n c⟩
  rw [retireInCopy_stream]
  split
  · next same => rw [same]
  · rfl

/-- Settles O15: each report by the cases of its test. -/
theorem drainReports : Obligations.DrainReports := by
  refine ⟨fun s running => ⟨fun draining empty => ⟨fun other => ?regimeOnly, fun req reg waits =>
      ⟨fun can n lowest => ?issues, fun cannot => ?waitsOn⟩⟩, fun other => ?noReport⟩,
    fun s k running pending retiring only => ⟨fun drained => ?retired, fun waiting => ?stillRetiring⟩,
    fun s running idle => ?noneRetiring,
    fun s running => ⟨next_event running checkPoolEmpty, next_event running checkDrained⟩,
    resident_iff, pendingCode_iff, retireInCopy_parts⟩
  case regimeOnly => exact next_event_of_eq running (checkPoolEmpty_drained draining empty other)
  case issues =>
    exact next_event_of_eq running ((checkPoolEmpty_waiting draining empty waits).trans (passPath_issues can lowest))
  case waitsOn =>
    exact next_event_of_eq running ((checkPoolEmpty_waiting draining empty waits).trans (passPath_waits cannot))
  case noReport => exact next_event_of_eq running (checkPoolEmpty_idle other)
  case retired =>
    exact next_event_of_eq running
      (checkDrained_drained (retiringStream_eq pending retiring only) ((drained_iff s k).mpr drained))
  case stillRetiring =>
    exact next_event_of_eq running
      (checkDrained_waiting (retiringStream_eq pending retiring only) (mt (drained_iff s k).mp waiting))
  case noneRetiring => exact next_event_of_eq running (checkDrained_none idle)

/-! ### The expiry of a hold timer (R72, R73, R78) -/

/-- A hold timer has run when its transaction is WAITING and has waited for its non-zero limit (R72). -/
theorem holdDue_iff (s : State) (h : Held) : s.holdDue 0 h = true ↔
    h.state = .waiting ∧ (s.record h.stream).holdLimit ≠ 0 ∧
      h.placedAt + (s.record h.stream).holdLimit.toNat * 100 ≤ s.now := by
  simp [State.holdDue, Held.isWaiting, Config.usTicks, and_assoc, BitVec.toNat_eq]

/-- The command expires those of the named transactions whose timers have run, in acceptance order (R73). -/
theorem expireHolds_eq (who : List TagPair) (s : State) : expireHolds who s =
    (s.pool.filter fun h => decide (h.pair ∈ who ∧ h.state = .waiting ∧ (s.record h.stream).holdLimit ≠ 0 ∧
      h.placedAt + (s.record h.stream).holdLimit.toNat * 100 ≤ s.now)).foldl expireHeld s := by
  simp only [expireHolds, ← holdDue_iff, Bool.decide_and, Bool.decide_eq_true]

/-- A pair that one transaction of the pool has names that one (R18). -/
theorem filter_pair_unique {before after : List Held} {h : Held} {due : Held → Bool}
    (unique : ∀ g ∈ before ++ after, g.pair ≠ h.pair) :
    (before ++ h :: after).filter (fun g => decide (g.pair ∈ [h.pair]) && due g) = if due h then [h] else [] := by
  have none_of {l : List Held} (differ : ∀ g ∈ l, g.pair ≠ h.pair) :
      l.filter (fun g => decide (g.pair ∈ [h.pair]) && due g) = [] :=
    List.filter_eq_nil_iff.mpr fun g member => by simp [differ g member]
  rw [List.filter_append, List.filter_cons, none_of fun g member => unique g (List.mem_append_left _ member),
    none_of fun g member => unique g (List.mem_append_right _ member)]
  simp

/-- The one WAITING transaction of a pair leaves its queue: `stay` of it remains in its place, and the ones after it lose the
guards it gave them (R73, R78, R81). -/
theorem leaveQueue_middle {stay : Held → List Held} {before after : List Held} {h : Held} (waiting : h.state = .waiting)
    (earlier : ∀ g ∈ before, g.pair ≠ h.pair) :
    leaveQueue stay h.pair (before ++ h :: after) = before ++ (stay h ++ after.map (releaseGuard h)) := by
  induction before with
  | nil => simp [leaveQueue, Held.isWaiting, waiting]
  | cons g before ih =>
    have stays : (g.isWaiting && g.pair == h.pair) = false := by simp [earlier g List.mem_cons_self]
    rw [List.cons_append, leaveQueue, stays, ih fun x member => earlier x (List.mem_cons_of_mem g member)]
    rfl

theorem releaseGuard_eq (h t : Held) : releaseGuard h t =
    if t.state = .waiting ∧ conflicts h.req h.stream t.req t.stream = true then { t with guards := t.guards - 1 } else t := by
  simp [releaseGuard, Held.isWaiting]

/-- One expiry: the transaction becomes EXPIRED in its place, the guards it gave are released, STALE is counted and raised, and
its refusal is offered (R73, R78). -/
theorem expireHeld_eq {before after : List Held} {h : Held} {s : State} (pool : s.pool = before ++ h :: after)
    (waiting : h.state = .waiting) (earlier : ∀ g ∈ before, g.pair ≠ h.pair) : expireHeld s h =
    makeOffer { offerer := .held h.pair, entry := staleEntry h.pair }
      { s with
        pool := before ++ { h with state := .expired } :: after.map fun t =>
          if t.state = .waiting ∧ conflicts h.req h.stream t.req t.stream = true then { t with guards := t.guards - 1 } else t
        mon := { s.mon with
          acc := putAt s.mon.acc h.stream { s.mon.acc[h.stream] with counts := { s.mon.acc[h.stream].counts with
            stale := min 4294967295 (s.mon.acc[h.stream].counts.stale + 1) } }
          gacc := { s.mon.gacc with counts := { s.mon.gacc.counts with
            stale := min 4294967295 (s.mon.gacc.counts.stale + 1) } } }
        alm := { s.alm with status := putAt s.alm.status h.stream (s.alm.status[h.stream] ||| 0x10) } } := by
  rw [expireHeld, pool, leaveQueue_middle waiting earlier, funext (releaseGuard_eq h)]
  rfl

/-- Settles O20: the transactions that the command expires, and the expiry of one. -/
theorem holdTimerExpiry : Obligations.HoldTimerExpiry := by
  refine ⟨fun before h after s running pool waiting unique limit => ⟨fun due => ?_, fun early => ?_⟩, fun who s running => ?_⟩
  · have expires : expireHolds [h.pair] s = expireHeld s h := by
      rw [expireHolds, pool, filter_pair_unique unique, if_pos ((holdDue_iff s h).mpr ⟨waiting, limit, due⟩)]
      rfl
    exact next_event_of_eq running
      (expires.trans (expireHeld_eq pool waiting fun g member => unique g (List.mem_append_left _ member)))
  · have waits : expireHolds [h.pair] s = s := by
      rw [expireHolds, pool, filter_pair_unique unique, if_neg fun due => ?_]
      · rfl
      · obtain ⟨_, _, reached⟩ := (holdDue_iff s h).mp due
        exact absurd reached (Nat.not_le.mpr early)
    exact next_event_of_eq running waits
  · exact next_event_of_eq running (expireHolds_eq who s)

/-! ### What an operation keeps of the pool -/

/-- What the operations of the device keep: the guard counts (R78), and the slot limits (R62, R64). -/
structure PoolKept (s t : State) : Prop where
  guards : guardsSound [] s.pool → guardsSound [] t.pool
  slots : SlotsFit s.cfg.active s.pool → SlotsFit t.cfg.active t.pool

section
variable {s t u : State}

theorem PoolKept.refl (s : State) : PoolKept s s := ⟨id, id⟩

theorem PoolKept.trans (first : PoolKept s t) (second : PoolKept t u) : PoolKept s u :=
  ⟨second.guards ∘ first.guards, second.slots ∘ first.slots⟩

/-- A list of such operations is one. -/
theorem PoolKept.foldl {α : Type} {f : State → α → State} (each : ∀ s a, PoolKept s (f s a)) :
    ∀ (l : List α) (s : State), PoolKept s (l.foldl f s)
  | [], s => .refl s
  | a :: l, s => (each s a).trans (PoolKept.foldl each l (f s a))

/-- An operation on another part of the device. -/
theorem PoolKept.of_frame (frame : t.pool = s.pool ∧ t.cfg.active = s.cfg.active) : PoolKept s t := by
  obtain ⟨pool, active⟩ := frame
  exact ⟨fun sound => pool ▸ sound, fun fit => by rwa [pool, active]⟩

/-- An operation that follows a change in another part of the device. -/
theorem PoolKept.after (second : PoolKept t u) (frame : t.pool = s.pool ∧ t.cfg.active = s.cfg.active) : PoolKept s u :=
  (PoolKept.of_frame frame).trans second

/-- An operation that empties the pool (R61, R88, R89). -/
theorem PoolKept.of_empty (empty : t.pool = []) : PoolKept s t :=
  ⟨fun _ => by rw [empty]; trivial, fun _ => by rw [empty]; exact .nil _⟩

/-! ### The operations on the pool -/

theorem place_poolKept (req : Request) {k : StreamId} (ok : s.placementOk k = true) : PoolKept s (place req k s) :=
  ⟨guardsSound_placed rfl, SlotsFit.placed ok⟩

theorem retestSlot_poolKept (s : State) : PoolKept s (retestSlot s) := by
  rcases retestSlot_cases s with same | ⟨req, reg, k, start, _, ok, placed⟩
  · rw [same]
    exact .refl s
  · rw [placed]
    exact place_poolKept req ok

/-- A transaction leaves its queue, at issue or at expiry (R73, R81). -/
theorem leaveQueue_poolKept {stay : Held → List Held} (idle : ∀ h, ∀ g ∈ stay h, g.isWaiting = false)
    (keeps : ∀ h, ((stay h).map (·.stream)).Sublist [h.stream]) (p : TagPair) (pool : t.pool = leaveQueue stay p s.pool)
    (active : t.cfg.active = s.cfg.active) : PoolKept s t := by
  refine ⟨fun sound => ?_, fun fit => ?_⟩
  · rw [pool]
    exact guardsSound_leaveQueue idle p sound
  · rw [pool, active]
    exact fit.mono (usedIn_leaveQueue_le keeps p s.pool)

/-- The EXPIRED transaction of a pair leaves the pool (R74). -/
theorem dropExpired_poolKept (p : TagPair) (s : State) : PoolKept s (setPool (dropExpired p s.pool) s) :=
  ⟨guardsSound_filter (fun h waiting => by simp [waiting]) s.pool fun _ _ => rfl,
    SlotsFit.mono (usedIn_dropExpired_le p s.pool)⟩

theorem checkPoolEmpty_poolKept (s : State) : PoolKept s (checkPoolEmpty s) := .of_frame (by simp)

/-- A retirement changes neither the max slots nor the reservation of a stream (R191). -/
theorem checkDrained_poolKept (s : State) : PoolKept s (checkDrained s) := by
  rcases checkDrained_cases s with same | ⟨k, _, _, completed⟩
  · rw [same]
    exact .refl s
  · rw [completed]
    exact ⟨id, SlotsFit.congr fun j => ⟨retireInCopy_stream_keeps StreamRecord.maxSlots (fun _ => rfl) k j _,
      retireInCopy_stream_keeps StreamRecord.reserved (fun _ => rfl) k j _⟩⟩

/-! ### Offers, refusals and expiries -/

theorem acceptStale_poolKept (p : TagPair) (s : State) : PoolKept s (acceptStale p s) :=
  (((dropExpired_poolKept p s).trans (retestSlot_poolKept _)).trans (checkPoolEmpty_poolKept _)).trans
    (checkDrained_poolKept _)

theorem acceptLost_poolKept (n : EntryId) (s : State) : PoolKept s (acceptLost n s) := by
  rcases acceptLost_cases n s with same | ⟨t, cause, _, accepted⟩
  · rw [same]
    exact .refl s
  · rw [accepted]
    exact (checkDrained_poolKept _).after (by simp)

theorem acceptOffer_poolKept (o : Offer) (s : State) : PoolKept s (acceptOffer o s) := by
  obtain ⟨_ | p | n, e⟩ := o
  · exact .of_frame ⟨rfl, rfl⟩
  · exact (acceptStale_poolKept p { s with localList := s.localList ++ [e] }).after ⟨rfl, rfl⟩
  · exact (acceptLost_poolKept n { s with localList := s.localList ++ [e] }).after ⟨rfl, rfl⟩

theorem makeOffer_poolKept (o : Offer) (s : State) : PoolKept s (makeOffer o s) := by
  unfold makeOffer
  split
  · exact acceptOffer_poolKept o s
  · exact .of_frame ⟨rfl, rfl⟩

theorem acceptOldest_poolKept (s : State) : PoolKept s (acceptOldest s) := by
  unfold acceptOldest
  split
  · exact .refl s
  · next o rest _ =>
    split
    · exact (acceptOffer_poolKept o { s with offers := rest }).after ⟨rfl, rfl⟩
    · exact .refl s

theorem refuse_poolKept (req : Request) (reg : Bool) (r : Reason) (k : Option StreamId) (s : State) :
    PoolKept s (refuse req reg r k s) := .of_frame (by simp [refuse_keeps])

theorem regulatedChecks_poolKept (req : Request) (reg : Bool) (s : State) : PoolKept s (regulatedChecks req reg s) := by
  rcases regulatedChecks_cases req reg s with h | h | ⟨ok, h⟩ | h | ⟨_, h⟩ <;> rw [h]
  · exact refuse_poolKept _ _ _ _ s
  · exact refuse_poolKept _ _ _ _ s
  · exact place_poolKept req ok
  · exact refuse_poolKept _ _ _ _ s
  · exact .of_frame (by simp)

/-- An EXPIRED transaction stays where its WAITING one stood (R73). -/
theorem expireHeld_poolKept (s : State) (h : Held) : PoolKept s (expireHeld s h) := by
  refine PoolKept.trans ?_ (makeOffer_poolKept _ _)
  exact leaveQueue_poolKept (stay := fun h => [{ h with state := .expired }]) (by simp [Held.isWaiting]) (by simp) h.pair
    (by simp) (by simp)

theorem expireEntry_poolKept (s : State) (n : EntryId) : PoolKept s (expireEntry s n) := by
  unfold expireEntry
  split
  · exact (makeOffer_poolKept _ _).after ⟨rfl, rfl⟩
  all_goals exact .refl s

/-! ### The events of the traffic, the timers and the monitor -/

theorem checkRequest_poolKept (req : Request) (reg : Bool) (s : State) : PoolKept s (checkRequest req reg s) := by
  unfold checkRequest
  split
  · exact refuse_poolKept _ _ _ _ s
  split
  · exact refuse_poolKept _ _ _ _ s
  split
  · exact regulatedChecks_poolKept req reg s
  · exact .of_frame (by simp)
  · exact .of_frame ⟨rfl, rfl⟩

theorem takeRequest_poolKept (req : Request) (s : State) : PoolKept s (takeRequest req s) := by
  unfold takeRequest
  split
  · exact .refl s
  split
  · exact checkRequest_poolKept req false s
  · exact (checkRequest_poolKept req true { s with tagMap := s.tagMap ++ [pairOf req] }).after ⟨rfl, rfl⟩

theorem passIssue_poolKept (s : State) : PoolKept s (passIssue s) := by
  unfold passIssue
  split
  · split <;> exact .of_frame (by simp)
  all_goals exact .refl s

theorem expireStall_poolKept (s : State) : PoolKept s (expireStall s) := by
  unfold expireStall
  split
  · split
    · exact refuse_poolKept _ _ _ _ s
    · exact .refl s
  all_goals exact .refl s

theorem arrive_poolKept (r : MemResponse) (s : State) : PoolKept s (arrive r s) := by
  have arrives (n : EntryId) : PoolKept s (arriveAt n r s) := by
    unfold arriveAt
    split <;> exact .of_frame (by simp)
  unfold arrive
  split
  · exact .refl s
  split
  · exact arrives _
  · exact .of_frame (by simp)

theorem deliverDownstream_poolKept (r : OfferedResponse) (s : State) : PoolKept s (deliverDownstream r s) := by
  unfold deliverDownstream
  split
  · exact (checkDrained_poolKept _).after (by simp)
  all_goals exact .refl s

theorem deliverLocal_poolKept (e : LocalEntry) (rest : List LocalEntry) (s : State) :
    PoolKept s (deliverLocal e rest s) := by
  refine PoolKept.trans ?_ (acceptOldest_poolKept _)
  split <;> exact .of_frame (by simp)

theorem deliverResponse_poolKept (s : State) : PoolKept s (deliverResponse s) := by
  unfold deliverResponse
  split
  · exact .refl s
  split
  · exact .refl s
  · exact deliverDownstream_poolKept _ s
  · exact deliverLocal_poolKept _ _ s
  · exact deliverDownstream_poolKept _ s
  · exact deliverLocal_poolKept _ _ s

theorem issueHead_poolKept (h : Held) (arb : Arbiter) (n : EntryId) (s : State) : PoolKept s (issueHead h arb n s) := by
  refine PoolKept.trans ?_ ((retestSlot_poolKept _).trans (checkPoolEmpty_poolKept _))
  exact leaveQueue_poolKept (stay := fun _ => []) (by simp) (by simp) h.pair (by simp [setPool]) (by simp)

theorem issueGrant_poolKept (s : State) : PoolKept s (issueGrant s) := by
  unfold issueGrant
  split
  · split
    · exact issueHead_poolKept _ _ _ s
    · exact .refl s
  · exact .refl s

theorem refillTick_poolKept (s : State) : PoolKept s (refillTick s) := by
  unfold refillTick
  split <;> exact .of_frame ⟨rfl, rfl⟩

theorem publish_poolKept (s : State) : PoolKept s (publish s) := by
  have evaluated (v : State) : (evaluateWatches v).pool = v.pool ∧ (evaluateWatches v).cfg = v.cfg := by
    unfold evaluateWatches
    split <;> simp
  unfold publish
  split
  · exact .of_frame (by simp [evaluated])
  · exact .refl s

theorem adjust_poolKept (hot : Bool) (s : State) : PoolKept s (adjust hot s) := by
  have acts (v : State) : PoolKept v (actAdjustment hot v) := by
    unfold actAdjustment
    dsimp only
    split <;> split <;> exact .of_frame (by simp)
  unfold adjust
  dsimp only
  split
  · split
    · exact (acts _).after ⟨rfl, rfl⟩
    · exact .of_frame ⟨rfl, rfl⟩
  · exact .refl s

/-! ### The commit event and the reset inputs -/

theorem reexamine_poolKept (before : Regime) (s : State) : PoolKept s (reexamine before s) := by
  unfold reexamine
  split
  · split
    · exact refuse_poolKept _ _ _ _ s
    split
    · next ok => exact place_poolKept _ ok
    split
    · exact refuse_poolKept _ _ _ _ s
    · exact .refl s
  · exact .of_frame ⟨rfl, rfl⟩
  · exact .of_frame (by simp)
  · exact regulatedChecks_poolKept _ _ s
  · exact regulatedChecks_poolKept _ _ s
  · exact .refl s

theorem commitTimeouts_poolKept (old : Settings) (s : State) : PoolKept s (commitTimeouts old s) := by
  unfold commitTimeouts
  split
  · exact .refl s
  · exact .foldl expireEntry_poolKept _ s

/-- The settings of a commit that passed the boundary checks leave the pool as it is, and the pool fits them (R186, R187). -/
theorem applySettings_poolKept (fit : SlotsFit s.cfg.staged s.pool) (after : Regime) :
    PoolKept s (finishCommand .done .ok .none (commitEpoch (applySettings s.cfg.staged after s))) := by
  have pool : (commitEpoch (applySettings s.cfg.staged after s)).pool = s.pool := by
    unfold commitEpoch
    split <;> simp [applySettings]
  refine ⟨fun sound => ?_, fun _ => ?_⟩
  · simpa only [finishCommand_frame, pool] using sound
  · simpa only [finishCommand_frame, pool, StreamAccounts.commitEpoch_frame, StreamAccounts.applySettings_cfg] using fit

theorem judgeCommit_poolKept (s : State) : PoolKept s (judgeCommit s) := by
  unfold judgeCommit
  split
  · split
    · exact .of_frame (by simp)
    · next passes =>
      exact (((applySettings_poolKept (slotsFit_of_boundary passes) _).trans (reexamine_poolKept _ _)).trans
        (.foldl expireHeld_poolKept _ _)).trans (commitTimeouts_poolKept _ _)
  · exact .refl s

theorem purge_poolKept (s : State) : PoolKept s (purge s) :=
  PoolKept.trans (.of_empty rfl) ((checkPoolEmpty_poolKept _).trans (checkDrained_poolKept _))

theorem cutDownstream_poolKept (s : State) : PoolKept s (cutDownstream s) :=
  (PoolKept.foldl (fun s o => makeOffer_poolKept o s) _ _).after ⟨rfl, rfl⟩

theorem deassertReset_poolKept (straps : BitVec 2) (s : State) : PoolKept s (deassertReset straps s) := by
  unfold deassertReset
  split <;> exact .of_frame ⟨rfl, rfl⟩

/-! ### The commands of the command slot and the management link -/

theorem arriveAs_poolKept (code : Byte) {act : State → State} (acts : ∀ t, PoolKept t (act t)) (s : State) :
    PoolKept s (arriveAs code act s) := by
  unfold arriveAs
  split
  · exact .of_frame (by simp)
  · exact (acts _).after (by simp)

theorem actCommit_poolKept (s : State) : PoolKept s (actCommit s) := by
  unfold actCommit
  split <;> exact .of_frame (by simp)

theorem actRetire_poolKept (s : State) : PoolKept s (actRetire s) := by
  have refuses (k : StreamId) (v : State) : PoolKept v (refuseRetired k v) := by
    unfold refuseRetired
    split
    · split
      · exact refuse_poolKept _ _ _ _ v
      · exact .refl v
    all_goals exact .refl v
  unfold actRetire
  split
  · dsimp only
    split
    · exact .of_frame (by simp)
    split
    · exact .of_frame (by simp)
    · exact ((refuses _ _).trans (checkDrained_poolKept _)).after (by simp)
  · exact .of_frame (by simp)

theorem takeCommit_poolKept : ∀ s : State, PoolKept s (takeCommit s) := arriveAs_poolKept _ actCommit_poolKept

theorem takeRevert_poolKept : ∀ s : State, PoolKept s (takeRevert s) :=
  arriveAs_poolKept _ fun _ => .of_frame (by simp [actRevert])

theorem takeAck_poolKept : ∀ s : State, PoolKept s (takeAck s) :=
  arriveAs_poolKept _ fun _ => .of_frame (by simp [actAck])

theorem takeRetire_poolKept : ∀ s : State, PoolKept s (takeRetire s) := arriveAs_poolKept _ actRetire_poolKept

theorem takeRestart_poolKept : ∀ s : State, PoolKept s (takeRestart s) :=
  arriveAs_poolKept _ fun _ => .of_frame (by simp [actRestart])

theorem takeCancel_poolKept (s : State) : PoolKept s (takeCancel s) := by
  unfold takeCancel
  split <;> exact .of_frame ⟨rfl, rfl⟩

theorem commandArrives_poolKept (code : Byte) (s : State) : PoolKept s (commandArrives code s) := by
  unfold commandArrives
  split
  · exact takeCommit_poolKept s
  split
  · exact takeRevert_poolKept s
  split
  · exact takeAck_poolKept s
  split
  · exact takeRetire_poolKept s
  split
  · exact takeRestart_poolKept s
  split
  · exact takeCancel_poolKept s
  · exact arriveAs_poolKept code (fun _ => .of_frame (by simp [actUnknown])) s

/-- A staged write reaches the staged copy only (R174, R184). -/
theorem writeStaged_poolKept (page off v : Nat) (s : State) : PoolKept s (writeStaged page off v s) := by
  unfold writeStaged
  split
  · exact .refl s
  split
  · exact .refl s
  split
  · exact .of_frame (by simp)
  split <;> exact .of_frame (by simp)

theorem completeOther_poolKept (page off v : Nat) (s : State) : PoolKept s (completeOther page off v s) := by
  unfold completeOther
  dsimp only
  split
  · exact commandArrives_poolKept _ s
  repeat' split
  all_goals exact .of_frame (by simp)

theorem writeAt_poolKept (page off : Nat) (b : Byte) (s : State) : PoolKept s (writeAt page off b s) := by
  have latches (lo : Nat) (f : Field Settings) (i : Nat) : PoolKept s (writeLatched page lo f i b s) := by
    unfold writeLatched
    dsimp only
    split
    · exact (writeStaged_poolKept _ _ _ _).after (by simp)
    · exact .of_frame (by simp)
  unfold writeAt
  split
  · unfold writeStagedByte
    split
    · exact .refl s
    split
    · exact .refl s
    split
    · exact writeStaged_poolKept _ _ _ s
    · exact latches _ _ _
  · exact completeOther_poolKept _ _ _ s

theorem setPointer_poolKept (page : Byte) (off : Nat) (st : TransferState) (s : State) :
    PoolKept s (setPointer page off st s) := .of_frame (by simp)

theorem setAck_poolKept (ack : Bool) (s : State) : PoolKept s (setAck ack s) := .of_frame (by simp)

theorem receiveByte_poolKept (b : Byte) (s : State) : PoolKept s (receiveByte b s) := by
  unfold receiveByte
  split
  · exact (setPointer_poolKept _ _ _ s).trans (setAck_poolKept _ _)
  · exact (setPointer_poolKept _ _ _ s).trans (setAck_poolKept _ _)
  · split
    · exact ((setPointer_poolKept _ _ _ s).trans (writeAt_poolKept _ _ _ _)).trans (setAck_poolKept _ _)
    · exact setAck_poolKept _ s
  · exact setAck_poolKept _ s
  · exact setAck_poolKept _ s

theorem clockByte_poolKept (hot ack : Bool) (s : State) : PoolKept s (clockByte hot ack s) := by
  unfold clockByte
  split <;> exact .of_frame (by simp)

theorem startTransfer_poolKept (address : BitVec 7) (read : Bool) (s : State) :
    PoolKept s (startTransfer address read s) := by
  unfold startTransfer
  dsimp only
  split <;> exact .of_frame (by simp)

theorem abandonTransfer_poolKept (lowFor : Nat) (s : State) : PoolKept s (abandonTransfer lowFor s) := by
  unfold abandonTransfer
  split <;> exact .of_frame (by simp)

end

/-! ### What every step keeps (R62, R64, R78) -/

theorem finish_poolKept (before s : State) : PoolKept s (finish before s) := .of_frame (by simp)

theorem event_poolKept {f : State → State} (kept : ∀ s, PoolKept s (f s)) (s : State) : PoolKept s (event f s) := by
  unfold event
  split
  · exact .refl s
  · exact (kept s).trans (finish_poolKept s _)

theorem whileRunning_poolKept {f : State → State} (kept : ∀ s, PoolKept s (f s)) (s : State) :
    PoolKept s (whileRunning f s) := by
  unfold whileRunning
  split
  · exact .refl s
  · exact kept s

/-- A command that only moves a level while RESET# is asserted, and is an event otherwise. -/
theorem level_poolKept {s moved u : State} (level : moved.pool = s.pool ∧ moved.cfg.active = s.cfg.active)
    (kept : PoolKept s u) : PoolKept s (if s.pins.reset then moved else finish s u) := by
  split
  · exact .of_frame level
  · exact kept.trans (finish_poolKept s u)

/-- Every command answers a state that keeps the pool. -/
theorem exec_poolKept (c : Instr) (s : State) : ∃ t, exec c s = .next t ∧ PoolKept s t := by
  cases c with
  | requestTaken req => exact ⟨_, rfl, event_poolKept (takeRequest_poolKept req) s⟩
  | placement => exact ⟨_, rfl, event_poolKept retestSlot_poolKept s⟩
  | passIssue => exact ⟨_, rfl, event_poolKept passIssue_poolKept s⟩
  | issue => exact ⟨_, rfl, event_poolKept issueGrant_poolKept s⟩
  | responseArrival r => exact ⟨_, rfl, event_poolKept (arrive_poolKept r) s⟩
  | responseDelivered => exact ⟨_, rfl, event_poolKept deliverResponse_poolKept s⟩
  | offerAccepted => exact ⟨_, rfl, event_poolKept acceptOldest_poolKept s⟩
  | stallTimeout => exact ⟨_, rfl, event_poolKept expireStall_poolKept s⟩
  | holdTimeout who => exact ⟨_, rfl, event_poolKept (fun s => .foldl expireHeld_poolKept _ s) s⟩
  | responseTimeout who => exact ⟨_, rfl, event_poolKept (fun s => .foldl expireEntry_poolKept _ s) s⟩
  | refillTick => exact ⟨_, rfl, event_poolKept refillTick_poolKept s⟩
  | publication => exact ⟨_, rfl, event_poolKept publish_poolKept s⟩
  | adjustment hot => exact ⟨_, rfl, event_poolKept (adjust_poolKept hot) s⟩
  | commitEvent => exact ⟨_, rfl, event_poolKept judgeCommit_poolKept s⟩
  | poolEmpty => exact ⟨_, rfl, event_poolKept checkPoolEmpty_poolKept s⟩
  | retirementCompletion => exact ⟨_, rfl, event_poolKept checkDrained_poolKept s⟩
  | resetAssert => exact ⟨_, rfl, .of_empty rfl⟩
  | resetDeassert straps => exact ⟨_, rfl, deassertReset_poolKept straps s⟩
  | urstAssert => exact ⟨_, rfl, level_poolKept ⟨rfl, rfl⟩ (purge_poolKept s)⟩
  | urstDeassert => exact ⟨_, rfl, .of_frame ⟨rfl, rfl⟩⟩
  | drstAssert => exact ⟨_, rfl, level_poolKept ⟨rfl, rfl⟩ (cutDownstream_poolKept s)⟩
  | drstDeassert => exact ⟨_, rfl, .of_frame (by simp)⟩
  | transferStart address read => exact ⟨_, rfl, whileRunning_poolKept (startTransfer_poolKept address read) s⟩
  | writeByte b => exact ⟨_, rfl, whileRunning_poolKept (receiveByte_poolKept b) s⟩
  | readByte hot ack => exact ⟨_, rfl, whileRunning_poolKept (clockByte_poolKept hot ack) s⟩
  | transferEnd => exact ⟨_, rfl, whileRunning_poolKept (fun _ => .of_frame (by simp)) s⟩
  | sclTimeout lowFor => exact ⟨_, rfl, whileRunning_poolKept (abandonTransfer_poolKept lowFor) s⟩
  | commit => exact ⟨_, rfl, whileRunning_poolKept takeCommit_poolKept s⟩
  | revert => exact ⟨_, rfl, whileRunning_poolKept takeRevert_poolKept s⟩
  | ack => exact ⟨_, rfl, whileRunning_poolKept takeAck_poolKept s⟩
  | retire => exact ⟨_, rfl, whileRunning_poolKept takeRetire_poolKept s⟩
  | restart => exact ⟨_, rfl, whileRunning_poolKept takeRestart_poolKept s⟩
  | cancel => exact ⟨_, rfl, whileRunning_poolKept takeCancel_poolKept s⟩
  | unknownCode code => exact ⟨_, rfl, whileRunning_poolKept (commandArrives_poolKept code) s⟩
  | stagedWrite page offset value => exact ⟨_, rfl, whileRunning_poolKept (writeStaged_poolKept _ _ _) s⟩
  | maskWrite which value => exact ⟨_, rfl, whileRunning_poolKept (fun _ => .of_frame (by simp)) s⟩
  | alertHoldWrite value => exact ⟨_, rfl, whileRunning_poolKept (fun _ => .of_frame (by simp)) s⟩
  | fieldWrite arg value => exact ⟨_, rfl, whileRunning_poolKept (fun _ => .of_frame (by simp)) s⟩
  | downstreamPortReady ready => exact ⟨_, rfl, .of_frame (by simp)⟩

theorem poolKept_of_exec {c : Instr} {s t : State} (answer : exec c s = .next t) : PoolKept s t := by
  obtain ⟨u, answered, kept⟩ := exec_poolKept c s
  rw [answered] at answer
  cases answer
  exact kept

/-- A step runs a command, from the queue or by itself, or lets time pass. -/
theorem step_poolKept {s t : State} (stepped : step s = .next t) : PoolKept s t := by
  unfold step at stepped
  split at stepped
  · exact (poolKept_of_exec stepped).after ⟨rfl, rfl⟩
  · unfold idle at stepped
    split at stepped
    · exact poolKept_of_exec stepped
    · cases stepped
      split <;> exact .of_frame ⟨rfl, rfl⟩

/-- Settles O52: a transaction enters the pool with the number of its guards, and the younger ones lose a guard when one of
theirs leaves its queue; no other operation moves a guard. -/
theorem guardInvariant : Obligations.GuardInvariant := fun _ _ sound stepped => (step_poolKept stepped).guards sound

/-- Settles O53: only a placement adds to the pool, after its test, and only a commit moves the limits, after its boundary checks;
and the limits of a checked configuration add up to the 64 slots. -/
theorem slotInvariant : Obligations.SlotInvariant := by
  refine ⟨fun s t sound stepped => ?_, fun s checked sound => ?_⟩
  · exact (slotsSound_iff t).mpr ((step_poolKept stepped).slots ((slotsSound_iff s).mp sound))
  · obtain ⟨passes, _⟩ := checked
    obtain ⟨_, _, _, _, _, reserved, _⟩ := (StaticChecks.staticFailure_eq_none_iff _).mp passes
    exact length_le_of_slotsFit reserved ((slotsSound_iff s).mp sound)

end Sys2Proof.Machine.HoldPool

/-! The issue arbiter: when a stream is eligible for a grant (R55, R63, R91), and the stream that a grant goes to (R93 to R95). -/

namespace Sys2Proof.Machine.IssueArbitration

/-! ### Eligibility (R55, R63, R91) -/

/-- The queue head is the first transaction of the pool that is of the stream and WAITING (R63). -/
theorem queueHead_eq_some_iff (s : State) (k : StreamId) (h : Held) : s.queueHead k = some h ↔
    ∃ before after, s.pool = before ++ h :: after ∧ h.stream = k ∧ h.state = .waiting ∧
      ∀ g ∈ before, ¬ (g.stream = k ∧ g.state = .waiting) := by
  simp only [State.queueHead, List.find?_eq_some_iff_append, Held.isWaiting, Bool.and_eq_true, beq_iff_eq,
    Bool.not_eq_true', Bool.eq_false_iff, ne_eq]
  constructor
  · rintro ⟨⟨stream, waiting⟩, before, after, pool, oldest⟩
    exact ⟨before, after, pool, stream, waiting, oldest⟩
  · rintro ⟨before, after, pool, stream, waiting, oldest⟩
    exact ⟨⟨stream, waiting⟩, before, after, pool, oldest⟩

/-- A head is budget-eligible by its class, by its balance or by the regime (R55). -/
theorem budgetOk_iff (s : State) (k : StreamId) : s.budgetOk k = true ↔
    classOf (s.record k) = .prot ∨ 0 ≤ s.accounts[k].balance ∨ s.cfg.regime = .draining := by
  simp [State.budgetOk, State.isProtected, or_assoc]

/-- The conditions of R91 in terms of the queue head. -/
theorem eligible_iff_head (s : State) (k : StreamId) : s.eligible k = true ↔
    s.cfg.regime ≠ .pass ∧ ∃ h, s.queueHead k = some h ∧ h.guards = 0 ∧ s.budgetOk k = true := by
  unfold State.eligible
  cases s.queueHead k <;> simp

theorem regime_ne_pass_iff (r : Regime) : r ≠ .pass ↔ r = .regulate ∨ r = .draining := by cases r <;> simp

/-- Settles O21: the conditions of R91, with the head (R63) and its budget (R55) written out. -/
theorem eligibleStream : Obligations.EligibleStream := by
  intro s k
  rw [eligible_iff_head, regime_ne_pass_iff]
  simp only [queueHead_eq_some_iff, budgetOk_iff]
  refine and_congr_right fun _ => ⟨?_, ?_⟩
  · rintro ⟨h, ⟨before, after, pool, stream, waiting, oldest⟩, guards, budget⟩
    exact ⟨before, h, after, pool, stream, waiting, oldest, guards, budget⟩
  · rintro ⟨before, h, after, pool, stream, waiting, oldest, guards, budget⟩
    exact ⟨h, ⟨before, after, pool, stream, waiting, oldest⟩, guards, budget⟩

/-! ### The rotation (R94, R95) -/

/-- The rotation after `c` holds at place `i` the stream that lies `i` places after the one that follows `c`. -/
theorem rotationAfter_getElem (c : StreamId) (i : Nat) (inside : i < (rotationAfter c).length) :
    (rotationAfter c)[i] = c + 1 + ⟨i, by simpa [rotationAfter, allStreams] using inside⟩ := by
  simp [rotationAfter, allStreams]

/-- Every stream stands in the rotation, at its distance from the stream after `c`. -/
theorem mem_rotationAfter (c k : StreamId) : k ∈ rotationAfter c :=
  List.mem_map.mpr ⟨k - (c + 1), List.mem_finRange _, add_sub_cancel _ _⟩

/-- The search of the rotation ends at the stream nearest after `c` of those that pass the test. -/
theorem find?_rotationAfter {test : StreamId → Bool} {c k : StreamId} (passes : test k = true)
    (nearest : ∀ j, test j = true → (k - (c + 1)).val ≤ (j - (c + 1)).val) :
    (rotationAfter c).find? test = some k := by
  refine List.find?_eq_some_iff_getElem.mpr
    ⟨passes, (k - (c + 1)).val, by simp [rotationAfter, allStreams], ?_, fun i earlier => ?_⟩
  · rw [rotationAfter_getElem]
    exact add_sub_cancel _ _
  · rw [rotationAfter_getElem, Bool.not_eq_true']
    by_contra hit
    have distance := nearest _ (by simpa using hit)
    rw [add_sub_cancel_left] at distance
    exact absurd distance (Nat.not_le.mpr earlier)

/-- The search fails when no stream passes the test. -/
theorem find?_rotationAfter_none {test : StreamId → Bool} (c : StreamId) (none_passes : ∀ j, test j = false) :
    (rotationAfter c).find? test = none := List.find?_eq_none.mpr fun j _ => by simp [none_passes j]

/-! ### The grant (R94, R95) -/

theorem nextProtected_eq_none {s : State} (idle : ∀ j : StreamId, ¬ (s.isProtected j = true ∧ s.eligible j = true)) :
    s.nextProtected = none :=
  find?_rotationAfter_none _ fun j => by simpa using idle j

/-- The current stream keeps its turn under three conditions (R95, step 1). -/
theorem turnRunning_iff (s : State) : s.turnRunning = true ↔
    s.isProtected s.arb.current = false ∧ s.eligible s.arb.current = true ∧ 0 < s.arb.grantsLeft := by
  simp [State.turnRunning, and_assoc]

/-- An eligible PROTECTED stream comes before the weighted rotation (R94). -/
theorem grant_of_nextProtected {s : State} {k : StreamId} (next : s.nextProtected = some k) :
    s.grant = some (k, { s.arb with lastProtected := k }) := by
  simp only [State.grant, next]

/-- A running turn goes on with one grant less (R95, step 1). -/
theorem grant_of_turnRunning {s : State} (weighted : s.nextProtected = none) (running : s.turnRunning = true) :
    s.grant = some (s.arb.current, { s.arb with grantsLeft := s.arb.grantsLeft - 1 }) := by
  simp only [State.grant, weighted, running, if_true]

/-- With no turn running the next stream, if there is one, begins a turn of its weight (R95, step 2). -/
theorem grant_of_turnEnded {s : State} (weighted : s.nextProtected = none) (ended : ¬ s.turnRunning = true) :
    s.grant = s.nextWeighted.map fun k =>
      (k, { s.arb with current := k, grantsLeft := (s.record k).weight.toNat - 1 }) := by
  simp only [State.grant, weighted, ended, Bool.false_eq_true, if_false]

/-- Without an eligible stream there is no grant (R91). -/
theorem grant_none {s : State} (idle : ∀ j : StreamId, s.eligible j = false) : s.grant = none := by
  have weighted : s.nextProtected = none := nextProtected_eq_none fun j => by simp [idle j]
  have ended : ¬ s.turnRunning = true := fun running => by
    obtain ⟨_, eligible, _⟩ := (turnRunning_iff s).mp running
    exact absurd eligible (by simp [idle])
  have none_begins : s.nextWeighted = none := find?_rotationAfter_none _ fun j => by simp [idle j]
  rw [grant_of_turnEnded weighted ended, none_begins]
  rfl

/-- Settles O22: the search of the rotation from the stream after last protected. -/
theorem protectedFirst : Obligations.ProtectedFirst := by
  intro s k prot eligible nearest
  refine grant_of_nextProtected (find?_rotationAfter (by simp [prot, eligible]) fun j hit => ?_)
  obtain ⟨protected_j, eligible_j⟩ := Bool.and_eq_true_iff.mp hit
  exact nearest j protected_j eligible_j

/-- Settles O23: a turn that runs, the search of the rotation from the stream after the current one, and no eligible stream. -/
theorem weightedRotation : Obligations.WeightedRotation := by
  intro s none_protected
  have weighted := nextProtected_eq_none none_protected
  refine ⟨fun running => grant_of_turnRunning weighted ((turnRunning_iff s).mpr running),
    fun ended k unprotected eligible nearest => ?_, grant_none⟩
  have begins : s.nextWeighted = some k :=
    find?_rotationAfter (by simp [unprotected, eligible]) fun j hit => by
      simp only [Bool.and_eq_true, Bool.not_eq_true'] at hit
      obtain ⟨unprotected_j, eligible_j⟩ := hit
      exact nearest j unprotected_j eligible_j
  rw [grant_of_turnEnded weighted (mt (turnRunning_iff s).mp ended), begins]
  rfl

end Sys2Proof.Machine.IssueArbitration

/-! The in-flight table: the arrival of a response (R3, R101, R103, R104, R112) and the expiry of response timers (R105, R106). -/

namespace Sys2Proof.Machine.InFlightTable

open StreamAccounts (next_event)
open HoldPool (next_event_of_eq)

/-! ### The arrival of a response (R3, R101, R103, R104, R112) -/

/-- The port takes no response under DRST#, nor while one stands offered (R3, R112). -/
theorem arrive_closed {r : MemResponse} {s : State} (closed : s.pins.drst = true ∨ s.downResp.isSome) : arrive r s = s :=
  if_pos closed

/-- An open port takes a response for the entry that its tag names (R101). -/
theorem arrive_tagged {r : MemResponse} {s : State} {n : EntryId} (deasserted : s.pins.drst = false)
    (empty : s.downResp = none) (tag : n.val = r.tag.val) : arrive r s = arriveAt n r s := by
  have names : r.tag.val < 48 := tag ▸ n.isLt
  have same : (⟨r.tag.val, names⟩ : EntryId) = n := Fin.ext tag.symm
  simp [arrive, deasserted, empty, names, same]

/-- A tag of 48 to 63 names no entry, so its response is an orphan (R3, R104). -/
theorem arrive_untagged {r : MemResponse} {s : State} (deasserted : s.pins.drst = false) (empty : s.downResp = none)
    (tag : 48 ≤ r.tag.val) : arrive r s = orphan s := by
  simp [arrive, deasserted, empty, Nat.not_lt.mpr tag]

section
variable {n : EntryId} {t : Flight} (r : MemResponse) {s : State}

/-- A FREE entry has no transaction to respond to (R104). -/
theorem arriveAt_free (entry : s.table[n] = .free) : arriveAt n r s = orphan s := by
  simp only [arriveAt, entry]

/-- A response to an entry that DRST# cut off is an orphan (R104, R111). -/
theorem arriveAt_expiring_dreset (entry : s.table[n] = .expiring t .dreset) : arriveAt n r s = orphan s := by
  simp only [arriveAt, entry]

/-- The response that an ACTIVE entry waits for is matched (R101). -/
theorem arriveAt_active (entry : s.table[n] = .active t none) : arriveAt n r s = holdResponse n t r s := by
  simp only [arriveAt, entry]

/-- A response that comes before the LOST offer of its entry is accepted withdraws the offer and is matched (R101). -/
theorem arriveAt_expiring_timeout (entry : s.table[n] = .expiring t .timeout) :
    arriveAt n r s = holdResponse n t r { s with offers := withdrawLost n s.offers } := by
  simp only [arriveAt, entry]

/-- A late response frees its entry (R104). -/
theorem arriveAt_quarantined_timeout (entry : s.table[n] = .quarantined t .timeout) :
    arriveAt n r s = countTo t.stream Acc.late { s with table := putAt s.table n .free } := by
  simp only [arriveAt, entry]

/-- A reset-drain response frees its entry (R104). -/
theorem arriveAt_quarantined_ureset (entry : s.table[n] = .quarantined t .ureset) :
    arriveAt n r s = countTo t.stream Acc.drain { s with table := putAt s.table n .free } := by
  simp only [arriveAt, entry]

end

/-- Settles O18: the open port by the tag and by the state of the entry that it names, and the closed port. -/
theorem responseArrivalTable : Obligations.ResponseArrivalTable := by
  refine ⟨fun r s running deasserted empty => ⟨fun tag => ?untagged, fun n tag => ?tagged⟩,
    fun r s running closed => next_event_of_eq running (arrive_closed closed)⟩
  case untagged => exact next_event_of_eq running (arrive_untagged deasserted empty tag)
  case tagged =>
    have answers {u : State} (arrives : arriveAt n r s = u) : exec (.responseArrival r) s = .next (finish s u) :=
      next_event_of_eq running ((arrive_tagged deasserted empty tag).trans arrives)
    exact ⟨fun entry => answers (arriveAt_free r entry), fun _ entry => answers (arriveAt_expiring_dreset r entry),
      fun _ entry => answers (arriveAt_active r entry), fun _ entry => answers (arriveAt_expiring_timeout r entry),
      fun _ entry => answers (arriveAt_quarantined_timeout r entry),
      fun _ entry => answers (arriveAt_quarantined_ureset r entry)⟩

/-! ### The expiry of response timers (R105, R106) -/

/-- A response timer has run when its entry is ACTIVE without a response and has waited for the timeout (R105). -/
theorem responseDue_iff (s : State) (n : EntryId) : s.responseDue 0 n = true ↔
    ∃ t, s.table[n] = .active t none ∧ t.issueTime + s.settings.responseTimeout.toNat * 100 ≤ s.now := by
  unfold State.responseDue
  split
  · next t entry => simp [entry, Config.usTicks]
  all_goals next entry => simp [entry]

/-- The entries that one event expires: those named whose timers have run, in ascending number (R106). -/
def dueEntries (who : List EntryId) (s : State) : List EntryId :=
  allEntries.filter fun n => decide (n ∈ who) && s.responseDue 0 n

theorem expireResponses_eq (who : List EntryId) (s : State) :
    expireResponses who s = (dueEntries who s).foldl expireEntry s := rfl

theorem mem_dueEntries (who : List EntryId) (s : State) (n : EntryId) :
    n ∈ dueEntries who s ↔ n ∈ who ∧ s.responseDue 0 n = true := by
  simp [dueEntries, allEntries]

theorem dueEntries_ascending (who : List EntryId) (s : State) : (dueEntries who s).Pairwise (· < ·) :=
  (List.pairwise_lt_finRange 48).filter _

/-- An event that names one entry expires that entry or none. -/
theorem dueEntries_singleton (n : EntryId) (s : State) : dueEntries [n] s = if s.responseDue 0 n then [n] else [] := by
  refine (dueEntries_ascending [n] s).eq_of_mem_iff (by split <;> simp) fun m => ?_
  rw [mem_dueEntries, List.mem_singleton]
  split
  · next due =>
    rw [List.mem_singleton]
    exact and_iff_left_of_imp fun same => same ▸ due
  · next early => exact iff_of_false (fun ⟨same, due⟩ => early (same ▸ due)) List.not_mem_nil

/-- One expiry: the entry becomes EXPIRING(TIMEOUT) and offers LOST (R106). -/
theorem expireEntry_active {n : EntryId} {t : Flight} {l : Option Nat} {s : State} (entry : s.table[n] = .active t l) :
    expireEntry s n = makeOffer (lostOffer n t) { s with table := putAt s.table n (.expiring t .timeout) } := by
  simp only [expireEntry, entry]

theorem expireResponses_due {n : EntryId} {s : State} (due : s.responseDue 0 n = true) :
    expireResponses [n] s = expireEntry s n := by
  rw [expireResponses_eq, dueEntries_singleton, if_pos due]
  rfl

theorem expireResponses_early {n : EntryId} {s : State} (early : ¬ s.responseDue 0 n = true) :
    expireResponses [n] s = s := by
  rw [expireResponses_eq, dueEntries_singleton, if_neg early]
  rfl

/-- Settles O19: the expiry of one entry, the entries that are not touched, and the order of several. -/
theorem responseTimerExpiry : Obligations.ResponseTimerExpiry := by
  refine ⟨fun n t s running entry => ⟨fun reached => ?expires, fun early => ?waits⟩, fun n s running other => ?untouched,
    fun who s running => ⟨dueEntries who s, fun n => ?_, dueEntries_ascending who s, next_event running _⟩⟩
  case expires =>
    have due : s.responseDue 0 n = true := (responseDue_iff s n).mpr ⟨t, entry, reached⟩
    exact next_event_of_eq running ((expireResponses_due due).trans (expireEntry_active entry))
  case waits =>
    refine next_event_of_eq running (expireResponses_early fun due => ?_)
    obtain ⟨u, active, reached⟩ := (responseDue_iff s n).mp due
    obtain ⟨rfl, _⟩ := Entry.active.inj (active.symm.trans entry)
    exact absurd reached (Nat.not_le.mpr early)
  case untouched =>
    refine next_event_of_eq running (expireResponses_early fun due => ?_)
    obtain ⟨u, active, _⟩ := (responseDue_iff s n).mp due
    exact other u active
  · rw [mem_dueEntries, responseDue_iff]

end Sys2Proof.Machine.InFlightTable

/-! The epoch boundary and RESTART: the publication and the epoch that begins (R117 to R119, R126 to R132), the judgement of a
stream's watches (R133, R134), and measurement and governance that start afresh (R131, R137, R157, R172, R193). -/

namespace Sys2Proof.Machine.MeasurementEpochs

open StreamAccounts (next_event markStarved_account starving_congr)
open HoldPool (next_event_of_eq)

/-! ### The watches after an evaluation (R132, R135) -/

/-- A watch that does not change passes nothing (R135). -/
theorem passWatch_same (r : StreamRecord) (w : Watch) (v : BitVec 6) : passWatch r w w v = v := by
  simp [passWatch, passChange]

theorem mapAll_same {α : Type} {n : Nat} (v : Vector α n) : mapAll v (fun _ x => x) = v :=
  table_ext _ _ fun i => mapAll_get v _ i

/-- Watches set to what they are change nothing. -/
theorem setWatches_same (s : State) : setWatches (fun _ w => w) s = s := by
  simp only [setWatches, passWatch_same, mapAll_same]

/-- What a publication with this report leaves of a stream's watch: a judgement in a regulated one only (R132). -/
def watchAfter (s : State) (report : StreamReport) (k : StreamId) (w : Watch) : Watch :=
  if s.mon.regulated then judgeWatch (s.record k) s.cfg.streamState[k] report w else w

/-- The record of a stream that a publication makes (R127, R130). -/
def endingReport (s : State) (k : StreamId) : StreamReport :=
  streamReport s.mon.regulated s.mon.acc[k] s.gov.rate[k] s.accounts[k]

/-- The evaluation reads the report just published, so a regulated epoch judges every watch and another one none (R132). -/
theorem evaluateWatches_publishReport (s : State) : evaluateWatches (publishReport s) =
    setWatches (fun k w => watchAfter s (endingReport s k) k w) (publishReport s) := by
  unfold evaluateWatches watchAfter
  cases regulated : s.mon.regulated with
  | true =>
    have read : (publishReport s).mon.greport.regulated = true := regulated
    have reports (k : StreamId) : (publishReport s).mon.reports[k] = endingReport s k := mapAll_get _ _ k
    simp only [read, reports, if_true, publishReport_frame, State.record]
  | false =>
    have read : (publishReport s).mon.greport.regulated = false := regulated
    simp only [read, Bool.false_eq_true, if_false, setWatches_same]

/-! ### The starved flags (R57) -/

theorem clearStarved_get (accounts : Vector Account 16) (k : StreamId) :
    (clearStarved accounts)[k] = { accounts[k] with starved := false } := by
  rw [clearStarved, mapAll_get]

/-! ### The publication (R117 to R119, R126 to R131) -/

/-- The counts of a regulated epoch are published, those of another one as 0 (R127); the mean needs a completion (R129). -/
theorem endingReport_eq (s : State) (k : StreamId) : endingReport s k =
    { counts := if s.mon.regulated then s.mon.acc[k].counts else Counts.zero
      mean := if s.mon.regulated ∧ s.mon.acc[k].counts.completions ≠ 0 then
          some (s.mon.acc[k].latencySum / s.mon.acc[k].counts.completions) else none
      effRate := s.gov.rate[k]
      balance := s.accounts[k].balance
      starved := s.accounts[k].starved } := by
  cases regulated : s.mon.regulated <;> simp [endingReport, streamReport, Acc.mean, regulated]

/-- At the boundary the report replaces the published one, the watches are judged and their transitions passed, the accumulators and
the starved flags start afresh, and the next epoch begins where the last one ended (R117, R126, R135). -/
theorem publish_due {s : State} (due : s.mon.epochEnd ≤ s.now) : publish s = { s with
    mon := { s.mon.zeroed with
      epochStart := s.mon.epochEnd
      epochEnd := s.mon.epochEnd + s.settings.epochLength.toNat * 10000
      epochLen := s.settings.epochLength.toNat
      regulated := s.cfg.regime == .regulate
      adjustDue := true
      seq := s.mon.seq + 1
      reports := (publishReport s).mon.reports
      greport := (publishReport s).mon.greport
      watches := mapAll s.mon.watches fun k w => watchAfter s (endingReport s k) k w }
    accounts := clearStarved s.accounts
    alm := { s.alm with
      status := mapAll s.alm.status fun k v =>
        passWatch (s.record k) s.mon.watches[k] (watchAfter s (endingReport s k) k s.mon.watches[k]) v } } := by
  rw [publish, if_pos due, evaluateWatches_publishReport]
  simp only [setWatches, publishReport, beginEpoch, Monitor.zeroed, State.settings, State.record, Config.epochTicks]

theorem publish_early {s : State} (early : s.now < s.mon.epochEnd) : publish s = s := if_neg (Nat.not_le.mpr early)

section
variable {s : State} (due : s.mon.epochEnd ≤ s.now) (k : StreamId)
include due

theorem publish_acc : (publish s).mon.acc[k] = Acc.zero := by
  rw [publish_due due]
  exact Vector.getElem_replicate k.isLt

theorem publish_account : (publish s).accounts[k] = { s.accounts[k] with starved := false } := by
  rw [publish_due due, clearStarved_get]

theorem publish_report : (publish s).mon.reports[k] = endingReport s k := by
  rw [publish_due due]
  exact mapAll_get _ _ k

theorem publish_watch : (publish s).mon.watches[k] = watchAfter s (endingReport s k) k s.mon.watches[k] := by
  rw [publish_due due]
  exact mapAll_get _ _ k

/-- The transitions of a stream's watches are passed to its status (R135). -/
theorem publish_status : (publish s).alm.status[k] =
    passWatch (s.record k) s.mon.watches[k] (publish s).mon.watches[k] s.alm.status[k] := by
  rw [publish_watch due, publish_due due]
  exact mapAll_get _ _ k

end

/-- Settles O28: stream by stream what the boundary leaves, the monitor's other fields, and no publication before it. -/
theorem publicationEvent : Obligations.PublicationEvent := by
  intro s running
  refine ⟨fun due => ⟨publish s, next_event running publish, ?frame, fun k => ?stream, ?monitor⟩, fun early => ?before⟩
  case frame => rw [publish_due due]
  case stream =>
    have report := (publish_report due k).trans (endingReport_eq s k)
    have watch : (publish s).mon.watches[k] = watchAfter s (publish s).mon.reports[k] k s.mon.watches[k] := by
      rw [publish_watch due, publish_report due]
    exact ⟨publish_acc due k, publish_account due k, report, watch, publish_status due k⟩
  case monitor => rw [publish_due due]; rfl
  case before => exact next_event_of_eq running (publish_early early)

/-! ### The latency watch (R134) -/

section
variable {r : StreamRecord} {mean : Option Nat} {m fault : Nat} {tripped : Bool}

/-- An over-limit of 0 turns the latency watch off. -/
theorem judgeLatency_off (off : r.latencyOver.toNat = 0) : judgeLatency r mean tripped fault = (false, 0) := if_pos off

/-- An epoch without a mean leaves the latency watch as it stands. -/
theorem judgeLatency_noMean (on : r.latencyOver.toNat ≠ 0) : judgeLatency r none tripped fault = (tripped, fault) := by
  simp only [judgeLatency, if_neg on]

/-- A mean above the over-limit is a fault, and the fault count's last one trips. -/
theorem judgeLatency_over (on : r.latencyOver.toNat ≠ 0) (above : r.latencyOver.toNat < m) :
    judgeLatency r (some m) false fault = if r.faultCount.toNat ≤ fault + 1 then (true, 0) else (false, fault + 1) := by
  simp only [judgeLatency, if_neg on, if_pos above]

/-- A mean within the over-limit ends the run of faults. -/
theorem judgeLatency_within (on : r.latencyOver.toNat ≠ 0) (within : m ≤ r.latencyOver.toNat) :
    judgeLatency r (some m) false fault = (false, 0) := by
  simp only [judgeLatency, if_neg on, if_neg (Nat.not_lt.mpr within)]

/-- A tripped watch clears below the release limit only. -/
theorem judgeLatency_tripped (on : r.latencyOver.toNat ≠ 0) :
    judgeLatency r (some m) true fault = if m < r.latencyRelease.toNat then (false, 0) else (true, fault) := by
  simp only [judgeLatency, if_neg on]

/-- The fault counter stays below the fault count, and stands at 0 while the watch is tripped. -/
theorem judgeLatency_bounded (below : fault < r.faultCount.toNat) (rests : tripped = true → fault = 0) :
    (judgeLatency r mean tripped fault).2 < r.faultCount.toNat ∧
      ((judgeLatency r mean tripped fault).1 = true → (judgeLatency r mean tripped fault).2 = 0) := by
  have positive : 0 < r.faultCount.toNat := Nat.zero_lt_of_lt below
  by_cases off : r.latencyOver.toNat = 0
  · simp [judgeLatency_off off, positive]
  cases mean with
  | none => simpa [judgeLatency_noMean off] using ⟨below, rests⟩
  | some m =>
    cases tripped with
    | true =>
      rw [judgeLatency_tripped off]
      split
      · simp [positive]
      · exact ⟨below, rests⟩
    | false =>
      rcases Nat.lt_or_ge r.latencyOver.toNat m with above | within
      · rw [judgeLatency_over off above]
        split
        · simp [positive]
        · next more => simpa using Nat.not_le.mp more
      · simp [judgeLatency_within off within, positive]

end

/-! ### The rate watches (R133) -/

theorem rateHighTripped_iff (r : StreamRecord) (bytes : Nat) :
    rateHighTripped r bytes = true ↔ r.rateHigh.toNat ≠ 0 ∧ r.rateHigh.toNat * 256 < bytes := by
  simp [rateHighTripped]

theorem rateLowTripped_iff (r : StreamRecord) (bytes : Nat) :
    rateLowTripped r bytes = true ↔ r.rateLow.toNat ≠ 0 ∧ bytes < r.rateLow.toNat * 256 := by
  simp [rateLowTripped]

/-- Limits in order leave no number of bytes above the high one and below the low one. -/
theorem not_rateHigh_and_rateLow {r : StreamRecord} (bytes : Nat) (ordered : r.rateLow.toNat ≤ r.rateHigh.toNat) :
    ¬ (rateHighTripped r bytes = true ∧ rateLowTripped r bytes = true) := by
  rintro ⟨high, low⟩
  obtain ⟨_, above⟩ := (rateHighTripped_iff r bytes).mp high
  obtain ⟨_, below⟩ := (rateLowTripped_iff r bytes).mp low
  omega

/-- A stream that is not OFF has each watch judged (R132). -/
theorem judgeWatch_judged (r : StreamRecord) {st : StreamState} (rep : StreamReport) (w : Watch) (judged : st ≠ .off) :
    judgeWatch r st rep w =
      { high := rateHighTripped r rep.counts.bytes
        low := rateLowTripped r rep.counts.bytes
        latency := (judgeLatency r rep.mean w.latency w.fault).1
        fault := (judgeLatency r rep.mean w.latency w.fault).2 } := by
  cases st with
  | off => exact absurd rfl judged
  | on => rfl
  | retiring => rfl

/-- Settles O29: the two rate conditions, and the latency watch row by row. -/
theorem watchJudgement : Obligations.WatchJudgement := by
  refine ⟨fun r st rep w judged => ?_, fun r rep w => rfl⟩
  simp only [judgeWatch_judged r rep w judged]
  refine ⟨rateHighTripped_iff r _, rateLowTripped_iff r _, fun _ _ => not_rateHigh_and_rateLow _,
    fun off => ?off, fun on absent => ?noMean, fun m on mean clear above => ?above, fun m on mean clear within => ?within,
    fun m on mean tripped => ?tripped, judgeLatency_bounded⟩
  case off => simp [judgeLatency_off off]
  case noMean => simp [absent, judgeLatency_noMean on]
  case above =>
    rw [mean, clear, judgeLatency_over on above]
    exact ⟨fun last => by simp [last], fun more => by simp [Nat.not_le.mpr more]⟩
  case within => simp [mean, clear, judgeLatency_within on within]
  case tripped =>
    rw [mean, tripped, judgeLatency_tripped on]
    exact ⟨fun below => by simp [below], fun reached => by simp [Nat.not_lt.mpr reached]⟩

/-! ### RESTART (R118, R131, R137, R157, R172, R193) -/

/-- RESTART on a running device with no command PENDING is taken and carried out (R181, R193). -/
theorem exec_restart_taken {s : State} (running : s.Running) (idle : s.cfg.slot.state ≠ .pending) :
    exec .restart s = .next (actRestart (takeCode 0x05 s)) := by
  calc exec .restart s = .next (whileRunning takeRestart s) := rfl
    _ = .next (takeRestart s) := by rw [whileRunning_running running]
    _ = .next (actRestart (takeCode 0x05 s)) := by simp [takeRestart, arriveAs, State.slotPending, idle]

/-- What RESTART changes: COMMAND is raised and cleared with the other statuses, and the starved flags of the streams that starve
are set again (R56, R172, R193). -/
theorem actRestart_eq (s : State) : actRestart s = markStarved { s with
    accounts := clearStarved s.accounts
    mon := { s.mon.restarted with
      epochStart := s.now
      epochEnd := s.now + s.settings.epochLength.toNat * 10000
      epochLen := s.settings.epochLength.toNat
      regulated := s.cfg.regime == .regulate }
    gov := restartGovernor s
    alm := s.alm.cleared
    cfg := { s.cfg with slot := { s.cfg.slot with state := .done, result := .ok, detail := .none } } } := by
  simp only [actRestart, finishCommand, raiseGlobal, beginEpoch, restartGovernor, Alarm.cleared, Monitor.restarted, Monitor.zeroed,
    State.settings, State.record, Config.epochTicks]

/-- Cleared flags (R57) are set again at once for the streams that starve (R56), whose conditions no flag enters. -/
theorem markStarved_cleared {s t : State} {k : StreamId} (accounts : t.accounts = clearStarved s.accounts)
    (active : t.cfg.active = s.cfg.active) (regime : t.cfg.regime = s.cfg.regime) (pins : t.pins = s.pins)
    (table : t.table = s.table) (pool : t.pool = s.pool) :
    (markStarved t).accounts[k] = { balance := s.accounts[k].balance, starved := s.starving k } := by
  have account : t.accounts[k] = { s.accounts[k] with starved := false } := by rw [accounts, clearStarved_get]
  have starving : t.starving k = s.starving k :=
    starving_congr regime (by simp only [State.isProtected, State.record, active]) (by rw [account])
      (by simp only [State.portOpen, pins]) table pool
  rw [markStarved_account, starving, account]
  cases s.starving k <;> rfl

theorem actRestart_account (s : State) (k : StreamId) :
    (actRestart s).accounts[k] = { balance := s.accounts[k].balance, starved := s.starving k } := by
  rw [actRestart_eq]
  exact markStarved_cleared (s := s) rfl rfl rfl rfl rfl rfl

/-- The effective rates start at the configured ones (R139, R157). -/
theorem restartGovernor_rate (s : State) (k : StreamId) : (restartGovernor s).rate[k] = (s.record k).configured.toNat :=
  mapAll_get _ _ k

/-- Settles O46: the state that RESTART leaves, with its rates and accounts stream by stream. -/
theorem restartTaken : Obligations.RestartTaken := by
  intro s running idle
  refine ⟨actRestart (takeCode 0x05 s), (actRestart (takeCode 0x05 s)).mon, (restartGovernor s).rate,
    exec_restart_taken running idle, ?frame, ?monitor, fun k => ⟨restartGovernor_rate s k, ?account⟩⟩
  case frame => rw [actRestart_eq]; rfl
  case monitor => rw [actRestart_eq]; rfl
  case account => exact actRestart_account (takeCode 0x05 s) k

end Sys2Proof.Machine.MeasurementEpochs

/-! The governor: the critical conditions (R148), the mode adjustments and the target misses (R141 to R146), the adjustment with the
entry to EMERGENCY and the exit (R140, R147, R149, R151), and the bounds of the effective rates that every step keeps (R138,
R152). -/

namespace Sys2Proof.Machine.RateGovernor

open StreamAccounts (retireInCopy_stream_keeps staticFailure_retireInCopy refuse_keeps pendingCode_of_idle configured_powerOn
  commitGovernor_crossing commitGovernor_staying rateFieldsChanged_iff commitEpoch_frame applySettings_cfg countDrains_keeps
  foldl_keeps Answers step_keeps)
open HoldPool (next_event_of_eq)

/-! ### The critical conditions (R148) -/

/-- A critical limit of 0 turns the condition off, and an absent mean does not meet it. -/
theorem critical_iff (g : GlobalSettings) (mean : Option Nat) : critical g mean = true ↔
    g.criticalLimit.toNat ≠ 0 ∧ ∃ m, mean = some m ∧ g.criticalLimit.toNat < m := by
  cases mean <;> simp [critical]

/-- A critical limit of 0 and an absent mean release. -/
theorem criticalRelease_iff (g : GlobalSettings) (mean : Option Nat) : criticalRelease g mean = true ↔
    g.criticalLimit.toNat = 0 ∨ mean = none ∨ ∃ m, mean = some m ∧ m ≤ g.criticalRelease.toNat := by
  cases mean <;> simp [criticalRelease]

/-- Settles O32: the two conditions, with and without a mean. -/
theorem criticalConditions : Obligations.CriticalConditions := fun g mean => ⟨critical_iff g mean, criticalRelease_iff g mean⟩

/-! ### The rate and the miss of one stream (R141 to R146) -/

theorem aboveBand_some_iff (g : GlobalSettings) (m : Nat) :
    aboveBand g (some m) = true ↔ g.cruiseTarget.toNat + g.cruiseTolerance.toNat < m := decide_eq_true_iff

theorem belowBand_some_iff (g : GlobalSettings) (m : Nat) :
    belowBand g (some m) = true ↔ m < g.cruiseTarget.toNat - g.cruiseTolerance.toNat := decide_eq_true_iff

theorem missReached_iff (g : GlobalSettings) (counter : Nat) :
    missReached g counter = true ↔ g.missCount.toNat ≤ counter + 1 := decide_eq_true_iff

theorem missesTarget_iff (g : GlobalSettings) (r : StreamRecord) (mean : Option Nat) (rate : Nat) :
    missesTarget g r mean rate = true ↔ modeOf r = .cruise ∧ aboveBand g mean = true ∧ rate = r.floor.toNat := by
  simp [missesTarget, and_assoc]

section
variable {g : GlobalSettings} {r : StreamRecord} {mean : Option Nat} {m rate : Nat} {starved : Bool}

theorem modeRate_fixed (fixed : modeOf r = .fixed) : modeRate g r mean starved rate = rate := by
  simp only [modeRate, fixed]

theorem modeRate_ramp (ramp : modeOf r = .ramp) :
    modeRate g r mean starved rate = if starved then stepUp r rate else stepDown r rate := by
  simp only [modeRate, ramp]

/-- Without a published mean CRUISE keeps its rate (R143). -/
theorem modeRate_noMean (cruise : modeOf r = .cruise) : modeRate g r none starved rate = rate := by
  simp [modeRate, cruise, aboveBand, belowBand]

theorem modeRate_above (cruise : modeOf r = .cruise) (above : aboveBand g mean = true) :
    modeRate g r mean starved rate = stepDown r rate := by
  simp only [modeRate, cruise, above, if_true]

theorem modeRate_below (cruise : modeOf r = .cruise) (notAbove : aboveBand g mean = false) (below : belowBand g mean = true) :
    modeRate g r mean starved rate = stepUp r rate := by
  simp only [modeRate, cruise, notAbove, below, if_true, Bool.false_eq_true, if_false]

theorem modeRate_within (cruise : modeOf r = .cruise) (notAbove : aboveBand g mean = false)
    (notBelow : belowBand g mean = false) : modeRate g r mean starved rate = rate := by
  simp only [modeRate, cruise, notAbove, notBelow, Bool.false_eq_true, if_false]

/-- Only a CRUISE stream misses its target (R145). -/
theorem missesTarget_of_mode (other : modeOf r ≠ .cruise) : missesTarget g r mean rate = false := by
  rw [Bool.eq_false_iff, Ne, missesTarget_iff]
  exact fun misses => other misses.1

/-- Only a mean above the band is a miss (R145). -/
theorem missesTarget_of_notAbove (notAbove : aboveBand g mean = false) : missesTarget g r mean rate = false := by
  rw [Bool.eq_false_iff, Ne, missesTarget_iff, notAbove]
  simp

/-- Only a rate at its floor is a miss (R145). -/
theorem missesTarget_of_rate (moved : rate ≠ r.floor.toNat) : missesTarget g r mean rate = false := by
  rw [Bool.eq_false_iff, Ne, missesTarget_iff]
  exact fun misses => moved misses.2.2

end

/-! ### The mode adjustments (R141 to R146) -/

section
variable (mean : Option Nat) (s : State) (k : StreamId)

theorem adjustModes_rate : (adjustModes mean s).gov.rate[k] =
    if s.cfg.streamState[k] = .off then s.gov.rate[k]
    else modeRate s.settings (s.record k) mean s.mon.reports[k].starved s.gov.rate[k] := by
  simp only [adjustModes, mapAll_get]

theorem adjustModes_miss : (adjustModes mean s).gov.miss[k] =
    if s.cfg.streamState[k] = .off then 0
    else missCounter s.settings (s.record k) mean s.gov.rate[k] s.gov.miss[k] := by
  simp only [adjustModes, mapAll_get]

/-- TARGET_MISS is raised where a miss brings the counter to the count (R146). -/
theorem adjustModes_status : (adjustModes mean s).alm.status[k] =
    if s.cfg.streamState[k] ≠ .off ∧ missesTarget s.settings (s.record k) mean s.gov.rate[k] ∧
        missReached s.settings s.gov.miss[k] then
      s.alm.status[k] ||| StreamCause.targetMiss.bit
    else s.alm.status[k] := by
  simp only [adjustModes, mapAll_get]

/-- No other cause of a stream is touched. -/
theorem adjustModes_otherCause {c : StreamCause} (other : c ≠ .targetMiss) :
    hasCause (adjustModes mean s).alm.status[k] c = hasCause s.alm.status[k] c := by
  rw [adjustModes_status]
  split
  · simp [hasCause_or_bit, Ne.symm other]
  · rfl

/-- What a stream leaves a mode adjustment with: its rate, its target-miss counter and whether TARGET_MISS is SET. -/
def Leaves (rate miss : Nat) (reported : Bool) : Prop :=
  (adjustModes mean s).gov.rate[k] = rate ∧ (adjustModes mean s).gov.miss[k] = miss ∧
    hasCause (adjustModes mean s).alm.status[k] .targetMiss = reported

end

section
variable {mean : Option Nat} {s : State} {k : StreamId} {m : Nat}

/-- An OFF stream keeps its rate and has its counter 0 (R144). -/
theorem leaves_off (off : s.cfg.streamState[k] = .off) :
    Leaves mean s k s.gov.rate[k] 0 (hasCause s.alm.status[k] .targetMiss) := by
  refine ⟨(adjustModes_rate mean s k).trans (if_pos off), (adjustModes_miss mean s k).trans (if_pos off), ?_⟩
  rw [adjustModes_status, if_neg fun raised => raised.1 off]

variable (on : s.cfg.streamState[k] ≠ .off)
include on

theorem adjustModes_rate_on : (adjustModes mean s).gov.rate[k] =
    modeRate s.settings (s.record k) mean s.mon.reports[k].starved s.gov.rate[k] :=
  (adjustModes_rate mean s k).trans (if_neg on)

/-- Without a miss the counter becomes 0, but that a CRUISE stream without a mean keeps it, and nothing is reported (R145). -/
theorem leaves_noMiss (noMiss : missesTarget s.settings (s.record k) mean s.gov.rate[k] = false) :
    Leaves mean s k (modeRate s.settings (s.record k) mean s.mon.reports[k].starved s.gov.rate[k])
      (if modeOf (s.record k) = .cruise ∧ mean = none then s.gov.miss[k] else 0) (hasCause s.alm.status[k] .targetMiss) := by
  refine ⟨adjustModes_rate_on on, ?_, ?_⟩
  · simp only [adjustModes_miss, on, missCounter, noMiss, if_false, Bool.false_eq_true]
  · simp only [adjustModes_status, noMiss, Bool.false_eq_true, false_and, and_false, if_false]

/-- FIXED keeps its rate (R141). -/
theorem leaves_fixed (fixed : modeOf (s.record k) = .fixed) :
    Leaves mean s k s.gov.rate[k] 0 (hasCause s.alm.status[k] .targetMiss) := by
  have leaves := leaves_noMiss (mean := mean) on (missesTarget_of_mode (by simp [fixed]))
  simpa only [modeRate_fixed fixed, fixed, reduceCtorEq, false_and, if_false] using leaves

/-- RAMP follows the published starved flag (R142). -/
theorem leaves_ramp (ramp : modeOf (s.record k) = .ramp) :
    Leaves mean s k
      (if s.mon.reports[k].starved then stepUp (s.record k) s.gov.rate[k] else stepDown (s.record k) s.gov.rate[k]) 0
      (hasCause s.alm.status[k] .targetMiss) := by
  have leaves := leaves_noMiss (mean := mean) on (missesTarget_of_mode (by simp [ramp]))
  simpa only [modeRate_ramp ramp, ramp, reduceCtorEq, false_and, if_false] using leaves

section
variable (cruise : modeOf (s.record k) = .cruise)
include cruise

/-- CRUISE without a published mean changes nothing (R143, R145). -/
theorem leaves_noMean : Leaves none s k s.gov.rate[k] s.gov.miss[k] (hasCause s.alm.status[k] .targetMiss) := by
  have leaves := leaves_noMiss (mean := none) on (missesTarget_of_notAbove rfl)
  simpa only [modeRate_noMean cruise, cruise, and_self, if_true] using leaves

/-- CRUISE below its band steps up, and the run of misses ends (R143, R145). -/
theorem leaves_below (notAbove : aboveBand s.settings (some m) = false) (below : belowBand s.settings (some m) = true) :
    Leaves (some m) s k (stepUp (s.record k) s.gov.rate[k]) 0 (hasCause s.alm.status[k] .targetMiss) := by
  have leaves := leaves_noMiss on (missesTarget_of_notAbove notAbove)
  simpa only [modeRate_below cruise notAbove below, reduceCtorEq, and_false, if_false] using leaves

/-- CRUISE within its band keeps its rate, and the run of misses ends (R143, R145). -/
theorem leaves_within (notAbove : aboveBand s.settings (some m) = false) (notBelow : belowBand s.settings (some m) = false) :
    Leaves (some m) s k s.gov.rate[k] 0 (hasCause s.alm.status[k] .targetMiss) := by
  have leaves := leaves_noMiss on (missesTarget_of_notAbove notAbove)
  simpa only [modeRate_within cruise notAbove notBelow, reduceCtorEq, and_false, if_false] using leaves

variable (above : aboveBand s.settings (some m) = true)
include above

/-- CRUISE above its band steps down (R143). -/
theorem adjustModes_rate_above : (adjustModes (some m) s).gov.rate[k] = stepDown (s.record k) s.gov.rate[k] :=
  (adjustModes_rate_on on).trans (modeRate_above cruise above)

/-- A rate that was above its floor ends the run of misses (R145). -/
theorem leaves_above_moved (moved : s.gov.rate[k] ≠ (s.record k).floor.toNat) :
    Leaves (some m) s k (stepDown (s.record k) s.gov.rate[k]) 0 (hasCause s.alm.status[k] .targetMiss) := by
  have leaves := leaves_noMiss on (missesTarget_of_rate (mean := some m) moved)
  simpa only [modeRate_above cruise above, reduceCtorEq, and_false, if_false] using leaves

variable (atFloor : s.gov.rate[k] = (s.record k).floor.toNat)
include atFloor

/-- A rate at its floor is a miss, which raises the counter (R145). -/
theorem leaves_above_missed (more : s.gov.miss[k] + 1 < s.settings.missCount.toNat) :
    Leaves (some m) s k (stepDown (s.record k) s.gov.rate[k]) (s.gov.miss[k] + 1)
      (hasCause s.alm.status[k] .targetMiss) := by
  have misses := (missesTarget_iff s.settings (s.record k) (some m) s.gov.rate[k]).mpr ⟨cruise, above, atFloor⟩
  have few : ¬ s.settings.missCount.toNat ≤ s.gov.miss[k] + 1 := Nat.not_le.mpr more
  refine ⟨adjustModes_rate_above on cruise above, ?_, ?_⟩
  · simp only [adjustModes_miss, missCounter, missReached_iff, on, misses, few, if_true, if_false]
  · simp only [adjustModes_status, missReached_iff, few, and_false, if_false]

/-- The last miss of the count is reported, and counting starts again (R146). -/
theorem leaves_above_reported (reached : s.settings.missCount.toNat ≤ s.gov.miss[k] + 1) :
    Leaves (some m) s k (stepDown (s.record k) s.gov.rate[k]) 0 true := by
  have misses := (missesTarget_iff s.settings (s.record k) (some m) s.gov.rate[k]).mpr ⟨cruise, above, atFloor⟩
  refine ⟨adjustModes_rate_above on cruise above, ?_, ?_⟩
  · simp only [adjustModes_miss, missCounter, missReached_iff, on, misses, reached, if_true, if_false]
  · rw [adjustModes_status, if_pos ⟨on, misses, (missReached_iff ..).mpr reached⟩, hasCause_or_bit]
    simp

end

end

/-- The lower end of the band is no higher than its upper end (R143). -/
theorem notAbove_of_below {g : GlobalSettings} {m : Nat} (below : belowBand g (some m) = true) :
    aboveBand g (some m) = false := by
  rw [belowBand_some_iff] at below
  rw [Bool.eq_false_iff, Ne, aboveBand_some_iff]
  omega

/-- Settles O33: OFF, then mode by mode, and CRUISE by where the mean stands to its band. -/
theorem modeAdjustments : Obligations.ModeAdjustments := by
  intro mean s k t g r rate up down above below reported standing
  refine ⟨rfl, fun c other => adjustModes_otherCause mean s k other, leaves_off, fun on => ⟨leaves_fixed on, leaves_ramp on,
    fun cruise absent => ?noMean, fun m cruise published => ?published⟩⟩
  case noMean =>
    subst absent
    exact leaves_noMean on cruise
  case published =>
    subst published
    refine ⟨fun isAbove => ?above, fun isBelow => ?below, fun notAbove notBelow => ?within⟩
    case above =>
      have higher : aboveBand g (some m) = true := (aboveBand_some_iff g m).mpr isAbove
      exact ⟨adjustModes_rate_above on cruise higher, fun moved => (leaves_above_moved on cruise higher moved).2,
        fun atFloor more => (leaves_above_missed on cruise higher atFloor more).2,
        fun atFloor reached => (leaves_above_reported on cruise higher atFloor reached).2⟩
    case below =>
      have lower : belowBand g (some m) = true := (belowBand_some_iff g m).mpr isBelow
      exact leaves_below on cruise (notAbove_of_below lower) lower
    case within =>
      exact leaves_within on cruise (Bool.eq_false_iff.mpr (mt (aboveBand_some_iff g m).mp notAbove))
        (Bool.eq_false_iff.mpr (mt (belowBand_some_iff g m).mp notBelow))

/-! ### The adjustment (R140, R147 to R149, R151) -/

/-- An adjustment acts after a regulated publication, in REGULATE (R140). -/
theorem adjustActs_iff (s : State) :
    s.adjustActs = true ↔ s.mon.greport.regulated = true ∧ s.cfg.regime = .regulate := by
  simp [State.adjustActs]

/-- The adjustment has come: the level of HOT stands in its pin, and no adjustment is due any longer. -/
def arrived (hot : Bool) (s : State) : State :=
  { s with pins := { s.pins with hot := hot }, mon := { s.mon with adjustDue := false } }

/-- The HOT filter counter has taken a sample (R147). -/
def filtered (hot : Bool) (s : State) : State := { s with gov := { s.gov with hotFilter := sampleHot hot s.gov.hotFilter } }

section
variable {hot : Bool} {s : State}

theorem adjust_notDue (notDue : s.mon.adjustDue = false) : adjust hot s = s := by
  simp [adjust, notDue]

theorem adjust_due (due : s.mon.adjustDue = true) :
    adjust hot s = if s.adjustActs then actAdjustment hot (arrived hot s) else arrived hot s := if_pos due

theorem adjust_acts (due : s.mon.adjustDue = true) (acts : s.adjustActs = true) :
    adjust hot s = actAdjustment hot (arrived hot s) := (adjust_due due).trans (if_pos acts)

theorem adjust_idle (due : s.mon.adjustDue = true) (idle : ¬ s.adjustActs = true) : adjust hot s = arrived hot s :=
  (adjust_due due).trans (if_neg idle)

/-- In NORMAL an acting adjustment enters EMERGENCY on a full HOT filter or the critical condition, and otherwise adjusts the
modes (R147 to R149). -/
theorem actAdjustment_normal (normal : s.gov.pressure = .normal) : actAdjustment hot s =
    if s.settings.hotFilter.toNat ≤ sampleHot hot s.gov.hotFilter ∨ critical s.settings s.mon.greport.mean = true then
      enterEmergency (filtered hot s)
    else adjustModes s.mon.greport.mean (filtered hot s) := by
  unfold actAdjustment
  dsimp only
  split
  · rfl
  · next other => cases normal.symm.trans other

/-- In EMERGENCY an acting adjustment leaves it with HOT deasserted and the critical release condition (R151). -/
theorem actAdjustment_emergency (emergency : s.gov.pressure = .emergency) : actAdjustment hot s =
    if hot = false ∧ criticalRelease s.settings s.mon.greport.mean = true then exitEmergency (filtered hot s)
    else filtered hot s := by
  unfold actAdjustment
  dsimp only
  split
  · next other => cases emergency.symm.trans other
  · rfl

end

@[simp] theorem adjustModes_pressure (mean : Option Nat) (s : State) :
    (adjustModes mean s).gov.pressure = s.gov.pressure := by simp only [adjustModes]

@[simp] theorem enterEmergency_pressure (s : State) : (enterEmergency s).gov.pressure = .emergency := by
  simp only [enterEmergency, raiseGlobal]

@[simp] theorem exitEmergency_pressure (s : State) : (exitEmergency s).gov.pressure = .normal := by
  simp only [exitEmergency]

theorem enterEmergency_rate (s : State) (k : StreamId) :
    (enterEmergency s).gov.rate[k] = overrideRate (s.record k) s.gov.rate[k] := mapAll_get _ _ k

theorem exitEmergency_rate (s : State) (k : StreamId) : (exitEmergency s).gov.rate[k] = exitRate (s.record k) :=
  mapAll_get _ _ k

/-- The exit gives a FIXED stream its configured rate and any other its floor (R151). -/
theorem exitRate_eq (r : StreamRecord) :
    exitRate r = if r.mode = 0 then r.configured.toNat else r.floor.toNat := by
  unfold exitRate modeOf
  split_ifs <;> rfl

/-- Settles O31: an adjustment that is not due, one that does not act, and one that acts in each pressure state. -/
theorem adjustmentEvent : Obligations.AdjustmentEvent := by
  intro hot s running s' filter sampled mean acts
  have acts_iff : s.adjustActs = true ↔ acts := adjustActs_iff s
  refine ⟨fun notDue => next_event_of_eq running (adjust_notDue notDue), fun due idle => ?idle,
    fun due active normal => ?normal, fun due active emergency => ?emergency⟩
  case idle => exact next_event_of_eq running (adjust_idle due (mt acts_iff.mp idle))
  case normal =>
    have judged := (adjust_acts due (acts_iff.mpr active)).trans (actAdjustment_normal (hot := hot) normal)
    exact ⟨fun calm => next_event_of_eq running (judged.trans (if_neg calm)),
      fun entry => ⟨_, next_event_of_eq running (judged.trans (if_pos entry)), enterEmergency_rate sampled⟩⟩
  case emergency =>
    have judged := (adjust_acts due (acts_iff.mpr active)).trans (actAdjustment_emergency (hot := hot) emergency)
    exact ⟨fun stays => next_event_of_eq running (judged.trans (if_neg stays)),
      fun exit => ⟨_, next_event_of_eq running (judged.trans (if_pos exit)), fun k =>
        (exitEmergency_rate sampled k).trans (exitRate_eq (s.record k))⟩⟩

/-! ### The bounds of a rate (R138, R183) -/

/-- What R138 promises of the effective rate of a stream with this record, under a pressure state. -/
def InBounds (p : Pressure) (r : StreamRecord) (rate : Nat) : Prop :=
  (p = .normal → r.floor.toNat ≤ rate ∧ rate ≤ r.maxRate.toNat) ∧
    (p = .emergency → (classOf r = .paced → rate = r.floor.toNat) ∧ (classOf r = .bulk → rate = 0))

/-- The rates of a state are sound when each is in its bounds and there is no EMERGENCY outside REGULATE (R138, R152). -/
theorem ratesSound_iff (s : State) : s.RatesSound ↔ (s.cfg.regime ≠ .regulate → s.gov.pressure = .normal) ∧
    ∀ k : StreamId, InBounds s.gov.pressure (s.record k) s.gov.rate[k] := Iff.rfl

theorem inBounds_normal_iff (r : StreamRecord) (rate : Nat) :
    InBounds .normal r rate ↔ r.floor.toNat ≤ rate ∧ rate ≤ r.maxRate.toNat := by
  simp [InBounds]

theorem inBounds_emergency_iff (r : StreamRecord) (rate : Nat) : InBounds .emergency r rate ↔
    (classOf r = .paced → rate = r.floor.toNat) ∧ (classOf r = .bulk → rate = 0) := by
  simp [InBounds]

/-- The bounds read no field that a retirement changes (R191). -/
theorem inBounds_retireInCopy (k j : StreamId) (c : Settings) (p : Pressure) (rate : Nat) :
    InBounds p (retireInCopy k c).streams[j] rate ↔ InBounds p c.streams[j] rate :=
  iff_of_eq (retireInCopy_stream_keeps (fun r => InBounds p r rate) (fun _ => rfl) k j c)

/-- The rates of a stream record are in order in a copy that passes the checks (R183, order 2). -/
theorem rateOrdered_of_checked {c : Settings} (checked : staticFailure c = none) (k : StreamId) :
    rateOrdered c.streams[k] = true := by
  obtain ⟨_, _, _, ordered, _⟩ := (StaticChecks.staticFailure_eq_none_iff c).mp checked
  exact ordered k

section
variable {r old new : StreamRecord} {p : Pressure} {rate : Nat}

theorem rateOrdered_iff : rateOrdered r = true ↔
    r.floor.toNat ≤ r.configured.toNat ∧ r.configured.toNat ≤ r.maxRate.toNat := by
  rw [StaticChecks.rateOrdered_eq, decide_eq_true_iff]

/-- A start value is in the bounds of NORMAL (R139). -/
theorem startRate_inBounds (ordered : rateOrdered r = true) : InBounds .normal r (startRate r) :=
  (inBounds_normal_iff r _).mpr (rateOrdered_iff.mp ordered)

/-- One step up is held to the max rate, and starts above the floor (R142). -/
theorem stepUp_inBounds (within : InBounds .normal r rate) : InBounds .normal r (stepUp r rate) := by
  rw [inBounds_normal_iff] at within ⊢
  unfold stepUp
  omega

/-- One step down is held to the floor, and starts below the max rate (R142). -/
theorem stepDown_inBounds (within : InBounds .normal r rate) : InBounds .normal r (stepDown r rate) := by
  rw [inBounds_normal_iff] at within ⊢
  unfold stepDown
  omega

/-- A mode adjustment keeps the rate or moves it by one step (R141 to R143). -/
theorem modeRate_inBounds (g : GlobalSettings) (mean : Option Nat) (starved : Bool) (within : InBounds .normal r rate) :
    InBounds .normal r (modeRate g r mean starved rate) := by
  unfold modeRate
  split
  · exact within
  · split
    · exact stepUp_inBounds within
    · exact stepDown_inBounds within
  · split
    · exact stepDown_inBounds within
    split
    · exact stepUp_inBounds within
    · exact within

/-- The entry to EMERGENCY gives each class what EMERGENCY asks of it (R138, R149). -/
theorem overrideRate_inBounds : InBounds .emergency r (overrideRate r rate) := by
  rw [inBounds_emergency_iff]
  unfold overrideRate
  cases classOf r <;> simp

/-- The exit from EMERGENCY gives the configured rate or the floor (R151). -/
theorem exitRate_inBounds (ordered : rateOrdered r = true) : InBounds .normal r (exitRate r) := by
  rw [rateOrdered_iff] at ordered
  rw [inBounds_normal_iff]
  unfold exitRate
  split <;> omega

/-- A commit that leaves the rate fields of a stream as they were leaves its bounds (R153). -/
theorem inBounds_of_unchanged (unchanged : ¬ rateFieldsChanged old new = true) (within : InBounds .normal old rate) :
    InBounds .normal new rate := by
  simp only [rateFieldsChanged_iff, not_or, not_not] at unchanged
  obtain ⟨_, _, floor, maxRate⟩ := unchanged
  rw [inBounds_normal_iff] at within ⊢
  rwa [← floor, ← maxRate]

/-- A commit starts a rate afresh or keeps it where its bounds stand, and in EMERGENCY overrides it by its new class (R150,
R153). -/
theorem commitRate_inBounds (ordered : rateOrdered new = true) (within : InBounds p old rate) :
    InBounds p new (commitRate p old new rate) := by
  cases p with
  | normal =>
    simp only [commitRate]
    split
    · exact startRate_inBounds ordered
    · next unchanged => exact inBounds_of_unchanged unchanged within
  | emergency =>
    rw [inBounds_emergency_iff]
    unfold commitRate
    cases classOf new <;> simp

end

/-! ### What an operation keeps of the rates -/

/-- What the operations of the device keep together: the checked configuration, which orders the bounds of the rates (R174), and the
rates within them (R138, R152). -/
def Bounded (s : State) : Prop := s.ConfigSound ∧ s.RatesSound

/-- An operation that keeps both. -/
def Governed (s t : State) : Prop := Bounded s → Bounded t

section
variable {s t u : State}

theorem Governed.refl (s : State) : Governed s s := id

theorem Governed.trans (first : Governed s t) (second : Governed t u) : Governed s u := second ∘ first

/-- A list of such operations is one. -/
theorem Governed.foldl {α : Type} {f : State → α → State} (each : ∀ s a, Governed s (f s a)) :
    ∀ (l : List α) (s : State), Governed s (l.foldl f s)
  | [], s => .refl s
  | a :: l, s => (each s a).trans (Governed.foldl each l (f s a))

/-- An operation on the configuration that moves neither the active copy nor the regime. -/
theorem Governed.of_config (frozen : s.ConfigSound → t.pendingCode 0x01 = true → staticFailure t.cfg.staged = none)
    (frame : t.cfg.active = s.cfg.active ∧ t.cfg.regime = s.cfg.regime ∧ t.gov = s.gov) : Governed s t := by
  obtain ⟨active, regime, gov⟩ := frame
  rintro ⟨checked, sound⟩
  refine ⟨⟨by rw [active]; exact checked.1, frozen checked⟩, ?_⟩
  simpa only [State.RatesSound, State.record, active, regime, gov] using sound

/-- Such an operation that leaves no command PENDING. -/
theorem Governed.of_idle (idle : t.cfg.slot.state ≠ .pending)
    (frame : t.cfg.active = s.cfg.active ∧ t.cfg.regime = s.cfg.regime ∧ t.gov = s.gov) : Governed s t :=
  .of_config (fun _ pending => absurd pending (by simp [pendingCode_of_idle idle])) frame

/-- An operation on the governor. -/
theorem Governed.of_gov (cfg : t.cfg = s.cfg)
    (pressure : s.cfg.regime ≠ .regulate → s.gov.pressure = .normal → t.gov.pressure = .normal)
    (rates : ∀ k : StreamId, rateOrdered (s.record k) = true → InBounds s.gov.pressure (s.record k) s.gov.rate[k] →
      InBounds t.gov.pressure (s.record k) t.gov.rate[k]) : Governed s t := by
  rintro ⟨checked, outside, within⟩
  have configured : t.ConfigSound := by simpa only [State.ConfigSound, State.pendingCode, cfg] using checked
  refine ⟨configured, (ratesSound_iff t).mpr ⟨fun other => ?_, fun k => ?_⟩⟩
  · rw [cfg] at other
    exact pressure other (outside other)
  · rw [State.record, cfg]
    exact rates k (rateOrdered_of_checked checked.1 k) (within k)

/-- An operation on another part of the device. -/
theorem Governed.of_frame (frame : t.cfg = s.cfg ∧ t.gov = s.gov) : Governed s t := by
  obtain ⟨cfg, gov⟩ := frame
  exact .of_gov cfg (fun _ normal => gov ▸ normal) fun _ _ within => gov ▸ within

/-- An operation that follows a change in another part of the device. -/
theorem Governed.after (second : Governed t u) (frame : t.cfg = s.cfg ∧ t.gov = s.gov) : Governed s u :=
  (Governed.of_frame frame).trans second

/-! ### The two reports that move the configuration -/

/-- DRAINING ends in PASS, and the pressure state was NORMAL in both (R82, R152). -/
theorem checkPoolEmpty_governed (s : State) : Governed s (checkPoolEmpty s) := by
  have leaves (draining : s.cfg.regime = .draining) : Governed s { s with cfg := { s.cfg with regime := .pass } } := by
    rintro ⟨checked, outside, within⟩
    exact ⟨checked, fun _ => outside (by simp [draining]), within⟩
  rcases checkPoolEmpty_cases s with same | ⟨draining, _, ended | ⟨req, reg, _, ended⟩⟩
  · rw [same]
    exact .refl s
  · rw [ended]
    exact leaves draining
  · rw [ended]
    exact (leaves draining).trans (.of_frame (by simp))

/-- A retirement leaves the active copy checked, and touches neither a class nor a bound (R40, R191). -/
theorem completeRetirement_governed (k : StreamId) (s : State) : Governed s (completeRetirement k s) := by
  rintro ⟨⟨active, _⟩, outside, within⟩
  have idle : (completeRetirement k s).cfg.slot.state ≠ .pending := by simp [completeRetirement, finishCommand, raiseGlobal]
  refine ⟨⟨staticFailure_retireInCopy k active, fun pending => ?_⟩, outside, fun j => ?_⟩
  · simp [pendingCode_of_idle idle] at pending
  · exact (inBounds_retireInCopy k j s.cfg.active s.gov.pressure s.gov.rate[j]).mpr (within j)

theorem checkDrained_governed (s : State) : Governed s (checkDrained s) := by
  rcases checkDrained_cases s with same | ⟨k, _, _, completed⟩
  · rw [same]
    exact .refl s
  · rw [completed]
    exact completeRetirement_governed k s

/-! ### Offers, refusals and expiries -/

theorem acceptStale_governed (p : TagPair) (s : State) : Governed s (acceptStale p s) :=
  ((checkPoolEmpty_governed _).trans (checkDrained_governed _)).after (by simp)

theorem acceptLost_governed (n : EntryId) (s : State) : Governed s (acceptLost n s) := by
  rcases acceptLost_cases n s with same | ⟨t, cause, _, accepted⟩
  · rw [same]
    exact .refl s
  · rw [accepted]
    exact (checkDrained_governed _).after (by simp)

theorem acceptOffer_governed (o : Offer) (s : State) : Governed s (acceptOffer o s) := by
  obtain ⟨_ | p | n, e⟩ := o
  · exact .of_frame ⟨rfl, rfl⟩
  · exact (acceptStale_governed p { s with localList := s.localList ++ [e] }).after ⟨rfl, rfl⟩
  · exact (acceptLost_governed n { s with localList := s.localList ++ [e] }).after ⟨rfl, rfl⟩

theorem makeOffer_governed (o : Offer) (s : State) : Governed s (makeOffer o s) := by
  unfold makeOffer
  split
  · exact acceptOffer_governed o s
  · exact .of_frame ⟨rfl, rfl⟩

theorem acceptOldest_governed (s : State) : Governed s (acceptOldest s) := by
  unfold acceptOldest
  split
  · exact .refl s
  · next o rest _ =>
    split
    · exact (acceptOffer_governed o { s with offers := rest }).after ⟨rfl, rfl⟩
    · exact .refl s

theorem refuse_governed (req : Request) (reg : Bool) (r : Reason) (k : Option StreamId) (s : State) :
    Governed s (refuse req reg r k s) := .of_frame (by simp [refuse_keeps])

theorem regulatedChecks_governed (req : Request) (reg : Bool) (s : State) : Governed s (regulatedChecks req reg s) := by
  rcases regulatedChecks_cases req reg s with h | h | ⟨_, h⟩ | h | ⟨_, h⟩ <;> rw [h]
  · exact refuse_governed _ _ _ _ s
  · exact refuse_governed _ _ _ _ s
  · exact .of_frame (by simp)
  · exact refuse_governed _ _ _ _ s
  · exact .of_frame (by simp)

theorem expireHeld_governed (s : State) (h : Held) : Governed s (expireHeld s h) :=
  (makeOffer_governed _ _).after (by simp)

theorem expireEntry_governed (s : State) (n : EntryId) : Governed s (expireEntry s n) := by
  unfold expireEntry
  split
  · exact (makeOffer_governed _ _).after ⟨rfl, rfl⟩
  all_goals exact .refl s

/-! ### The events of the traffic, the timers and the monitor -/

theorem finish_governed (before s : State) : Governed s (finish before s) := .of_frame (by simp)

theorem checkRequest_governed (req : Request) (reg : Bool) (s : State) : Governed s (checkRequest req reg s) := by
  unfold checkRequest
  split
  · exact refuse_governed _ _ _ _ s
  split
  · exact refuse_governed _ _ _ _ s
  split
  · exact regulatedChecks_governed req reg s
  · exact .of_frame (by simp)
  · exact .of_frame ⟨rfl, rfl⟩

theorem takeRequest_governed (req : Request) (s : State) : Governed s (takeRequest req s) := by
  unfold takeRequest
  split
  · exact .refl s
  split
  · exact checkRequest_governed req false s
  · exact (checkRequest_governed req true { s with tagMap := s.tagMap ++ [pairOf req] }).after ⟨rfl, rfl⟩

theorem passIssue_governed (s : State) : Governed s (passIssue s) := by
  unfold passIssue
  split
  · split <;> exact .of_frame (by simp)
  all_goals exact .refl s

theorem expireStall_governed (s : State) : Governed s (expireStall s) := by
  unfold expireStall
  split
  · split
    · exact refuse_governed _ _ _ _ s
    · exact .refl s
  all_goals exact .refl s

theorem arrive_governed (r : MemResponse) (s : State) : Governed s (arrive r s) := by
  have arrives (n : EntryId) : Governed s (arriveAt n r s) := by
    unfold arriveAt
    split <;> exact .of_frame (by simp)
  unfold arrive
  split
  · exact .refl s
  split
  · exact arrives _
  · exact .of_frame (by simp)

theorem deliverDownstream_governed (r : OfferedResponse) (s : State) : Governed s (deliverDownstream r s) := by
  unfold deliverDownstream
  split
  · exact (checkDrained_governed _).after (by simp)
  all_goals exact .refl s

theorem deliverLocal_governed (e : LocalEntry) (rest : List LocalEntry) (s : State) :
    Governed s (deliverLocal e rest s) := by
  refine Governed.trans ?_ (acceptOldest_governed _)
  split <;> exact .of_frame (by simp)

theorem deliverResponse_governed (s : State) : Governed s (deliverResponse s) := by
  unfold deliverResponse
  split
  · exact .refl s
  split
  · exact .refl s
  · exact deliverDownstream_governed _ s
  · exact deliverLocal_governed _ _ s
  · exact deliverDownstream_governed _ s
  · exact deliverLocal_governed _ _ s

theorem issueGrant_governed (s : State) : Governed s (issueGrant s) := by
  unfold issueGrant
  split
  · split
    · exact (checkPoolEmpty_governed _).after (by simp)
    · exact .refl s
  · exact .refl s

theorem refillTick_governed (s : State) : Governed s (refillTick s) := by
  unfold refillTick
  split <;> exact .of_frame ⟨rfl, rfl⟩

theorem publish_governed (s : State) : Governed s (publish s) := by
  unfold publish evaluateWatches
  split
  · split <;> exact .of_frame (by simp)
  · exact .refl s

/-! ### The adjustment -/

/-- The mode adjustments of NORMAL keep each rate in its bounds (R142). -/
theorem adjustModes_governed (mean : Option Nat) (normal : s.gov.pressure = .normal) : Governed s (adjustModes mean s) := by
  refine .of_gov (by simp) (by simp) fun k _ within => ?_
  rw [normal] at within
  rw [adjustModes_pressure, normal, adjustModes_rate]
  split
  · exact within
  · exact modeRate_inBounds _ _ _ within

/-- EMERGENCY is entered in REGULATE, with the rates that it asks for (R140, R149). -/
theorem enterEmergency_governed (regulates : s.cfg.regime = .regulate) : Governed s (enterEmergency s) :=
  .of_gov (by simp) (fun other => absurd regulates other) fun k _ _ => by
    rw [enterEmergency_pressure, enterEmergency_rate]
    exact overrideRate_inBounds

/-- The rates of the exit are in the bounds of NORMAL (R151). -/
theorem exitEmergency_governed (s : State) : Governed s (exitEmergency s) :=
  .of_gov (by simp) (by simp) fun k ordered _ => by
    rw [exitEmergency_pressure, exitEmergency_rate]
    exact exitRate_inBounds ordered

/-- A sample of HOT moves neither a rate nor the pressure state (R147). -/
theorem filtered_governed (hot : Bool) (s : State) : Governed s (filtered hot s) := .of_gov rfl (fun _ => id) fun _ _ => id

theorem actAdjustment_governed (hot : Bool) (regulates : s.cfg.regime = .regulate) : Governed s (actAdjustment hot s) := by
  refine (filtered_governed hot s).trans ?_
  cases pressure : s.gov.pressure with
  | normal =>
    rw [actAdjustment_normal pressure]
    split
    · exact enterEmergency_governed regulates
    · exact adjustModes_governed _ pressure
  | emergency =>
    rw [actAdjustment_emergency pressure]
    split
    · exact exitEmergency_governed _
    · exact .refl _

theorem adjust_governed (hot : Bool) (s : State) : Governed s (adjust hot s) := by
  cases due : s.mon.adjustDue with
  | false =>
    rw [adjust_notDue due]
    exact .refl s
  | true =>
    by_cases acts : s.adjustActs = true
    · obtain ⟨_, regulates⟩ := (adjustActs_iff s).mp acts
      rw [adjust_acts due acts]
      exact (actAdjustment_governed hot (s := arrived hot s) regulates).after ⟨rfl, rfl⟩
    · rw [adjust_idle due acts]
      exact .of_frame ⟨rfl, rfl⟩

/-! ### The commit event and the reset inputs -/

/-- The governor after a commit: NORMAL outside REGULATE, and each rate in the bounds of the new copy (R150, R152, R153). -/
theorem commitGovernor_inBounds {before after : Regime} {old new : Settings} {g : Governor}
    (checked : staticFailure new = none) (outside : before ≠ .regulate → g.pressure = .normal)
    (within : ∀ k : StreamId, InBounds g.pressure old.streams[k] g.rate[k]) :
    (after ≠ .regulate → (commitGovernor before after old new g).pressure = .normal) ∧
      ∀ k : StreamId, InBounds (commitGovernor before after old new g).pressure new.streams[k]
        (commitGovernor before after old new g).rate[k] := by
  by_cases staying : before = .regulate ↔ after = .regulate
  · rw [commitGovernor_staying staying]
    refine ⟨fun other => outside (mt staying.mp other), fun k => ?_⟩
    rw [mapAll_get]
    exact commitRate_inBounds (rateOrdered_of_checked checked k) (within k)
  · rw [commitGovernor_crossing staying]
    refine ⟨fun _ => rfl, fun k => ?_⟩
    rw [mapAll_get]
    exact startRate_inBounds (rateOrdered_of_checked checked k)

/-- The staged copy was frozen as it passed the checks, and the rates follow it into the active copy (R150, R184, R187). -/
theorem applySettings_governed (due : s.pendingCode 0x01 = true) (after : Regime) :
    Governed s (finishCommand .done .ok .none (commitEpoch (applySettings s.cfg.staged after s))) := by
  rintro ⟨⟨_, frozen⟩, outside, within⟩
  have checked := frozen due
  obtain ⟨pressure, rates⟩ := commitGovernor_inBounds (after := after) checked outside within
  have gov : (applySettings s.cfg.staged after s).gov =
      commitGovernor s.cfg.regime after s.cfg.active s.cfg.staged s.gov := rfl
  refine ⟨⟨?_, fun pending => ?_⟩, ?_⟩
  · simpa only [finishCommand_frame, commitEpoch_frame, applySettings_cfg] using checked
  · simp [State.pendingCode, finishCommand, raiseGlobal] at pending
  · simpa only [State.RatesSound, State.record, finishCommand_frame, commitEpoch_frame, applySettings_cfg, gov] using
      ⟨pressure, rates⟩

theorem reexamine_governed (before : Regime) (s : State) : Governed s (reexamine before s) := by
  unfold reexamine
  split
  · split
    · exact refuse_governed _ _ _ _ s
    split
    · exact .of_frame (by simp)
    split
    · exact refuse_governed _ _ _ _ s
    · exact .refl s
  · exact .of_frame ⟨rfl, rfl⟩
  · exact .of_frame (by simp)
  · exact regulatedChecks_governed _ _ s
  · exact regulatedChecks_governed _ _ s
  · exact .refl s

theorem commitTimeouts_governed (old : Settings) (s : State) : Governed s (commitTimeouts old s) := by
  unfold commitTimeouts
  split
  · exact .refl s
  · exact .foldl expireEntry_governed _ s

theorem judgeCommit_governed (s : State) : Governed s (judgeCommit s) := by
  unfold judgeCommit
  split
  · next due =>
    split
    · exact .of_idle (by simp [finishCommand, raiseGlobal]) (by simp)
    · exact (((applySettings_governed (Bool.and_eq_true_iff.mp due).1 _).trans (reexamine_governed _ _)).trans
        (.foldl expireHeld_governed _ _)).trans (commitTimeouts_governed _ _)
  · exact .refl s

theorem countDrains_gov (s : State) : (countDrains s).gov = s.gov := foldl_keeps State.gov (by simp) _ s

theorem purge_governed (s : State) : Governed s (purge s) :=
  ((checkPoolEmpty_governed _).trans (checkDrained_governed _)).after (by simp [countDrains_keeps, countDrains_gov])

theorem cutDownstream_governed (s : State) : Governed s (cutDownstream s) :=
  (Governed.foldl (fun s o => makeOffer_governed o s) _ _).after ⟨rfl, rfl⟩

/-- The power-on rates lie in the power-on bounds (R44, R156). -/
theorem assertReset_bounded (s : State) : Bounded (assertReset s) := by
  obtain ⟨checked, _⟩ := configured_powerOn (s := assertReset s) rfl
  have rates : ∀ k : StreamId, CfgUnit.powerOn.active.streams[k].floor.toNat ≤ Governor.powerOn.rate[k] ∧
      Governor.powerOn.rate[k] ≤ CfgUnit.powerOn.active.streams[k].maxRate.toNat := by decide
  exact ⟨checked, (ratesSound_iff _).mpr ⟨fun _ => rfl, fun k => (inBounds_normal_iff _ _).mpr (rates k)⟩⟩

/-- While RESET# is asserted the regime is PASS and the pressure state NORMAL, so the start values are in their bounds (R139, R152,
R156). -/
theorem deassertReset_governed (straps : BitVec 2) (resetSound : s.ResetSound) : Governed s (deassertReset straps s) := by
  unfold deassertReset
  split
  · next asserted =>
    rintro ⟨checked, outside, within⟩
    have normal : s.gov.pressure = .normal := outside (by simp [resetSound asserted])
    refine Governed.of_gov (s := s) (by simp) (by simp) (fun k ordered _ => ?_) ⟨checked, outside, within⟩
    simp only [beginEpoch_frame, mapAll_get, normal]
    exact startRate_inBounds ordered
  · exact .refl s

/-! ### The commands of the command slot -/

theorem takeCode_governed (code : Byte) (idle : s.cfg.slot.state ≠ .pending) : Governed s (takeCode code s) :=
  .of_idle idle ⟨rfl, rfl, rfl⟩

theorem finishCommand_governed {st : SlotState} (ended : st ≠ .pending) (r : Result) (d : Detail) (s : State) :
    Governed s (finishCommand st r d s) := .of_idle ended ⟨rfl, rfl, rfl⟩

/-- A command arrives: BUSY, or carried out when it is taken (R181). -/
theorem arriveAs_governed {code : Byte} {act : State → State}
    (acts : ∀ t : State, t.cfg.slot.state ≠ .pending → t.cfg.slot.code = code → Governed t (act t)) (s : State) :
    Governed s (arriveAs code act s) := by
  unfold arriveAs
  split
  · exact .of_config And.right ⟨rfl, rfl, rfl⟩
  · next free =>
    have idle : s.cfg.slot.state ≠ .pending := by simpa [State.slotPending] using free
    exact (takeCode_governed code idle).trans (acts _ idle rfl)

/-- A COMMIT becomes PENDING with a staged copy that passes the checks (R183). -/
theorem actCommit_governed (s : State) : Governed s (actCommit s) := by
  unfold actCommit
  split
  · exact finishCommand_governed (by simp) _ _ s
  · next passes => exact .of_config (fun _ _ => passes) ⟨rfl, rfl, rfl⟩

theorem actRevert_governed (s : State) : Governed s (actRevert s) :=
  .of_idle (by simp [actRevert, finishCommand, raiseGlobal]) ⟨rfl, rfl, rfl⟩

theorem actAck_governed (s : State) : Governed s (actAck s) :=
  (finishCommand_governed (by simp) .ok .none s).trans (.of_frame ⟨rfl, rfl⟩)

/-- RESTART starts every rate afresh in NORMAL (R157). -/
theorem actRestart_governed (s : State) : Governed s (actRestart s) := by
  refine (finishCommand_governed (st := .done) (by simp) .ok .none s).trans ?_
  refine .of_gov (by simp [actRestart]) (fun _ _ => rfl) fun k ordered _ => ?_
  have normal : (actRestart s).gov.pressure = .normal := rfl
  have rate : (actRestart s).gov.rate[k] = startRate (s.record k) := mapAll_get _ _ k
  rw [normal, rate]
  exact startRate_inBounds ordered

/-- A PENDING RETIRE is no PENDING COMMIT (R180). -/
theorem startRetiring_governed (k : StreamId) (code : s.cfg.slot.code = 0x04) :
    Governed s (becomePending (startRetiring k s)) := by
  refine .of_config (fun _ pending => ?_) ⟨rfl, rfl, rfl⟩
  simp [becomePending, State.pendingCode, code] at pending

theorem actRetire_governed (code : s.cfg.slot.code = 0x04) : Governed s (actRetire s) := by
  have refuses (k : StreamId) (v : State) : Governed v (refuseRetired k v) := by
    unfold refuseRetired
    split
    · split
      · exact refuse_governed _ _ _ _ v
      · exact .refl v
    all_goals exact .refl v
  unfold actRetire
  split
  · dsimp only
    split
    · exact finishCommand_governed (by simp) _ _ s
    split
    · exact finishCommand_governed (by simp) _ _ s
    · exact ((startRetiring_governed _ code).trans (refuses _ _)).trans (checkDrained_governed _)
  · exact finishCommand_governed (by simp) _ _ s

theorem takeCommit_governed : ∀ s : State, Governed s (takeCommit s) := arriveAs_governed fun t _ _ => actCommit_governed t

theorem takeRevert_governed : ∀ s : State, Governed s (takeRevert s) := arriveAs_governed fun t _ _ => actRevert_governed t

theorem takeAck_governed : ∀ s : State, Governed s (takeAck s) := arriveAs_governed fun t _ _ => actAck_governed t

theorem takeRetire_governed : ∀ s : State, Governed s (takeRetire s) :=
  arriveAs_governed fun _ _ code => actRetire_governed code

theorem takeRestart_governed : ∀ s : State, Governed s (takeRestart s) :=
  arriveAs_governed fun t _ _ => actRestart_governed t

theorem takeCancel_governed (s : State) : Governed s (takeCancel s) := by
  unfold takeCancel
  split <;> exact .of_idle (by simp [finishCommand, raiseGlobal]) (by simp)

theorem commandArrives_governed (code : Byte) (s : State) : Governed s (commandArrives code s) := by
  unfold commandArrives
  split
  · exact takeCommit_governed s
  split
  · exact takeRevert_governed s
  split
  · exact takeAck_governed s
  split
  · exact takeRetire_governed s
  split
  · exact takeRestart_governed s
  split
  · exact takeCancel_governed s
  · exact arriveAs_governed (fun t _ _ => finishCommand_governed (by simp) .unknown .none t) s

/-! ### The management link -/

/-- A staged write reaches the staged copy only while no COMMIT is PENDING (R184). -/
theorem writeStaged_governed (page off v : Nat) (s : State) : Governed s (writeStaged page off v s) := by
  unfold writeStaged
  split
  · exact .refl s
  split
  · exact .refl s
  split
  · exact .of_config And.right ⟨rfl, rfl, rfl⟩
  · next nonePending =>
    split
    · exact .refl s
    · exact .of_config (fun _ pending => absurd pending nonePending) ⟨rfl, rfl, rfl⟩

theorem writeMask_governed (which : MaskByte) (v : Byte) (s : State) : Governed s (writeMask which v s) :=
  .of_frame (by simp)

theorem writeHold_governed (v : Byte) (s : State) : Governed s (writeHold v s) := .of_frame ⟨rfl, rfl⟩

theorem writeArg_governed (i : Fin 3) (v : Byte) (s : State) : Governed s (writeArg i v s) :=
  .of_config And.right ⟨rfl, rfl, rfl⟩

theorem completeOther_governed (page off v : Nat) (s : State) : Governed s (completeOther page off v s) := by
  unfold completeOther
  dsimp only
  split
  · exact commandArrives_governed _ s
  split
  · exact writeArg_governed _ _ s
  split
  · exact writeArg_governed _ _ s
  split
  · exact writeArg_governed _ _ s
  split
  · exact writeHold_governed _ s
  split
  · exact writeMask_governed _ _ s
  split
  · exact writeMask_governed _ _ s
  · exact .refl s

theorem writeAt_governed (page off : Nat) (b : Byte) (s : State) : Governed s (writeAt page off b s) := by
  have latches (lo : Nat) (f : Field Settings) (i : Nat) : Governed s (writeLatched page lo f i b s) := by
    unfold writeLatched
    dsimp only
    split
    · exact (writeStaged_governed _ _ _ _).after ⟨rfl, rfl⟩
    · exact .of_frame ⟨rfl, rfl⟩
  unfold writeAt
  split
  · unfold writeStagedByte
    split
    · exact .refl s
    split
    · exact .refl s
    split
    · exact writeStaged_governed _ _ _ s
    · exact latches _ _ _
  · exact completeOther_governed _ _ _ s

theorem receiveByte_governed (b : Byte) (s : State) : Governed s (receiveByte b s) := by
  unfold receiveByte
  split
  · exact .of_frame ⟨rfl, rfl⟩
  · exact .of_frame ⟨rfl, rfl⟩
  · split
    · have written := writeAt_governed s.link.page.toNat s.link.offset b
        (setPointer s.link.page (s.link.offset + 1) .writeData s)
      exact (written.after ⟨rfl, rfl⟩).trans (.of_frame ⟨rfl, rfl⟩)
    · exact .of_frame ⟨rfl, rfl⟩
  · exact .of_frame ⟨rfl, rfl⟩
  · exact .of_frame ⟨rfl, rfl⟩

theorem clockByte_governed (hot ack : Bool) (s : State) : Governed s (clockByte hot ack s) := by
  unfold clockByte
  split <;> exact .of_frame ⟨rfl, rfl⟩

theorem endTransfer_governed (s : State) : Governed s (endTransfer s) := .of_frame ⟨rfl, rfl⟩

theorem startTransfer_governed (address : BitVec 7) (read : Bool) (s : State) :
    Governed s (startTransfer address read s) := by
  unfold startTransfer
  dsimp only
  split <;> exact .of_frame ⟨rfl, rfl⟩

theorem abandonTransfer_governed (lowFor : Nat) (s : State) : Governed s (abandonTransfer lowFor s) := by
  unfold abandonTransfer
  split
  · exact endTransfer_governed s
  · exact .refl s

end

/-! ### What every step keeps (R138, R152, R174, R177) -/

theorem event_governed {f : State → State} (governed : ∀ s, Governed s (f s)) (s : State) : Governed s (event f s) := by
  unfold event
  split
  · exact .refl s
  · exact (governed s).trans (finish_governed s _)

theorem whileRunning_governed {f : State → State} (governed : ∀ s, Governed s (f s)) (s : State) :
    Governed s (whileRunning f s) := by
  unfold whileRunning
  split
  · exact .refl s
  · exact governed s

/-- A command that only moves a level while RESET# is asserted, and is an event otherwise. -/
theorem level_governed {s moved u : State} (level : moved.cfg = s.cfg ∧ moved.gov = s.gov) (governed : Governed s u) :
    Governed s (if s.pins.reset then moved else finish s u) := by
  split
  · exact .of_frame level
  · exact governed.trans (finish_governed s u)

/-- Every command answers a state that keeps the rates in their bounds. -/
theorem exec_governed (c : Instr) {s : State} (resetSound : s.ResetSound) : ∃ t, exec c s = .next t ∧ Governed s t := by
  cases c with
  | requestTaken req => exact ⟨_, rfl, event_governed (takeRequest_governed req) s⟩
  | placement => exact ⟨_, rfl, event_governed (fun _ => .of_frame (by simp)) s⟩
  | passIssue => exact ⟨_, rfl, event_governed passIssue_governed s⟩
  | issue => exact ⟨_, rfl, event_governed issueGrant_governed s⟩
  | responseArrival r => exact ⟨_, rfl, event_governed (arrive_governed r) s⟩
  | responseDelivered => exact ⟨_, rfl, event_governed deliverResponse_governed s⟩
  | offerAccepted => exact ⟨_, rfl, event_governed acceptOldest_governed s⟩
  | stallTimeout => exact ⟨_, rfl, event_governed expireStall_governed s⟩
  | holdTimeout who => exact ⟨_, rfl, event_governed (fun s => .foldl expireHeld_governed _ s) s⟩
  | responseTimeout who => exact ⟨_, rfl, event_governed (fun s => .foldl expireEntry_governed _ s) s⟩
  | refillTick => exact ⟨_, rfl, event_governed refillTick_governed s⟩
  | publication => exact ⟨_, rfl, event_governed publish_governed s⟩
  | adjustment hot => exact ⟨_, rfl, event_governed (adjust_governed hot) s⟩
  | commitEvent => exact ⟨_, rfl, event_governed judgeCommit_governed s⟩
  | poolEmpty => exact ⟨_, rfl, event_governed checkPoolEmpty_governed s⟩
  | retirementCompletion => exact ⟨_, rfl, event_governed checkDrained_governed s⟩
  | resetAssert => exact ⟨_, rfl, fun _ => assertReset_bounded s⟩
  | resetDeassert straps => exact ⟨_, rfl, deassertReset_governed straps resetSound⟩
  | urstAssert => exact ⟨_, rfl, level_governed ⟨rfl, rfl⟩ (purge_governed s)⟩
  | urstDeassert => exact ⟨_, rfl, .of_frame ⟨rfl, rfl⟩⟩
  | drstAssert => exact ⟨_, rfl, level_governed ⟨rfl, rfl⟩ (cutDownstream_governed s)⟩
  | drstDeassert => exact ⟨_, rfl, .of_frame (by simp)⟩
  | transferStart address read => exact ⟨_, rfl, whileRunning_governed (startTransfer_governed address read) s⟩
  | writeByte b => exact ⟨_, rfl, whileRunning_governed (receiveByte_governed b) s⟩
  | readByte hot ack => exact ⟨_, rfl, whileRunning_governed (clockByte_governed hot ack) s⟩
  | transferEnd => exact ⟨_, rfl, whileRunning_governed endTransfer_governed s⟩
  | sclTimeout lowFor => exact ⟨_, rfl, whileRunning_governed (abandonTransfer_governed lowFor) s⟩
  | commit => exact ⟨_, rfl, whileRunning_governed takeCommit_governed s⟩
  | revert => exact ⟨_, rfl, whileRunning_governed takeRevert_governed s⟩
  | ack => exact ⟨_, rfl, whileRunning_governed takeAck_governed s⟩
  | retire => exact ⟨_, rfl, whileRunning_governed takeRetire_governed s⟩
  | restart => exact ⟨_, rfl, whileRunning_governed takeRestart_governed s⟩
  | cancel => exact ⟨_, rfl, whileRunning_governed takeCancel_governed s⟩
  | unknownCode code => exact ⟨_, rfl, whileRunning_governed (commandArrives_governed code) s⟩
  | stagedWrite page offset value => exact ⟨_, rfl, whileRunning_governed (writeStaged_governed _ _ _) s⟩
  | maskWrite which value => exact ⟨_, rfl, whileRunning_governed (writeMask_governed which value) s⟩
  | alertHoldWrite value => exact ⟨_, rfl, whileRunning_governed (writeHold_governed value) s⟩
  | fieldWrite arg value => exact ⟨_, rfl, whileRunning_governed (writeArg_governed arg value) s⟩
  | downstreamPortReady ready => exact ⟨_, rfl, .of_frame (by simp)⟩

theorem governed_of_exec {c : Instr} {s t : State} (resetSound : s.ResetSound) (answer : exec c s = .next t) :
    Governed s t := by
  obtain ⟨u, answered, governed⟩ := exec_governed c resetSound
  rw [answered] at answer
  cases answer
  exact governed

/-- A step runs a command, from the queue or by itself, or lets time pass. -/
theorem step_governed {s t : State} (resetSound : s.ResetSound) (stepped : step s = .next t) : Governed s t := by
  unfold step at stepped
  split at stepped
  · next c rest _ =>
    exact (governed_of_exec (s := { s with pending := rest }) resetSound stepped).after ⟨rfl, rfl⟩
  · unfold idle at stepped
    split at stepped
    · exact governed_of_exec resetSound stepped
    · cases stepped
      split <;> exact .of_frame ⟨rfl, rfl⟩

/-- While RESET# is asserted the regime is PASS: its assertion makes it so, its deassertion ends it, and no other command moves
either (R177). -/
theorem answers_resetSound {s t : State} (answers : Answers s t) (resetSound : s.ResetSound) : t.ResetSound := by
  cases answers with
  | finished u orderly held =>
    intro asserted
    simp only [finish_frame, orderly.reset] at asserted ⊢
    rw [held asserted, resetSound asserted]
  | managed _ kept =>
    intro asserted
    rw [kept.regime, resetSound (kept.orderly.reset ▸ asserted)]
  | resetAsserted => exact fun _ => rfl
  | resetDeasserted straps asserted =>
    intro again
    simp [deassertReset, asserted] at again

/-- Settles O55: every command keeps the configuration checked and the rates within the bounds it sets, each adjustment and each
commit by its own rates, and under RESET# the regime is PASS, so that the start values find the pressure state NORMAL. -/
theorem rateInvariant : Obligations.RateInvariant := by
  intro s t resetSound checked rates stepped
  have reset : t.ResetSound := step_keeps (P := State.ResetSound) (fun _ _ => id) (fun _ => id)
    (fun _ _ => answers_resetSound) resetSound stepped
  exact ⟨reset, step_governed resetSound stepped ⟨checked, rates⟩⟩

end Sys2Proof.Machine.RateGovernor

/-! The alarm unit: what a watch transition and an ACK do to a status (R135, R162, R170), the alert line (R167), and REVERT and ACK
(R170, R188, R206). -/

namespace Sys2Proof.Machine.AlarmStatus

/-! ### The watch items and their causes (R133 to R135, R162) -/

/-- The three items that a stream's watches hold (R133, R134). -/
inductive WatchItem where
  | high
  | low
  | latency

/-- The cause that an item reports (R135). -/
def WatchItem.cause : WatchItem → StreamCause
  | .high => .rateHigh
  | .low => .rateLow
  | .latency => .latency

/-- The mode code of the watch that an item belongs to (R162, R208). -/
def WatchItem.code (r : StreamRecord) : WatchItem → Byte
  | .high => r.rateMode
  | .low => r.rateMode
  | .latency => r.latencyMode

/-- Whether an item is TRIPPED. -/
def WatchItem.tripped (w : Watch) : WatchItem → Bool
  | .high => w.high
  | .low => w.low
  | .latency => w.latency

/-- The three items of a stream pass their changes, each to its own cause and under the mode of its watch (R135, R162). -/
theorem hasCause_passWatch (r : StreamRecord) (x y : Watch) (v : BitVec 6) (i : WatchItem) :
    hasCause (passWatch r x y v) i.cause =
      hasCause (passChange (watchModeOf (i.code r)) (i.tripped x) (i.tripped y) i.cause v) i.cause := by
  cases i <;> simp [passWatch, hasCause_passChange, WatchItem.cause, WatchItem.code, WatchItem.tripped]

/-- No item touches a cause that no watch reports (R135). -/
theorem hasCause_passWatch_event (r : StreamRecord) (x y : Watch) (v : BitVec 6) {c : StreamCause}
    (event : ∀ i : WatchItem, i.cause ≠ c) : hasCause (passWatch r x y v) c = hasCause v c := by
  have high := event .high
  have low := event .low
  have latency := event .latency
  simp only [WatchItem.cause] at high low latency
  simp [passWatch, hasCause_passChange, high, low, latency]

/-- Under LEVEL a change of an item takes the status along (R162, R163). -/
theorem hasCause_passChange_level {v : BitVec 6} {c : StreamCause} {before : Bool} (after : Bool)
    (level : hasCause v c = before) : hasCause (passChange .level before after c v) c = after := by
  rw [hasCause_passChange]
  cases before <;> cases after <;> simp [level]

/-- A mask of the causes of the rate watch and of the latency watch. -/
theorem hasCause_watchBits (rate latency : Prop) [Decidable rate] [Decidable latency] (c : StreamCause) :
    hasCause ((if rate then StreamCause.rateHigh.bit ||| StreamCause.rateLow.bit else 0) |||
        (if latency then StreamCause.latency.bit else 0)) c = match c with
      | .rateHigh => decide rate
      | .rateLow => decide rate
      | .latency => decide latency
      | .targetMiss => false
      | .stale => false
      | .denied => false := by
  by_cases onRate : rate <;> by_cases onLatency : latency <;> simp only [onRate, onLatency, if_true, if_false] <;>
    cases c <;> rfl

/-- The watch causes whose mode is LEVEL (R170). -/
theorem hasCause_levelBits (r : StreamRecord) (c : StreamCause) : hasCause (levelBits r) c = match c with
    | .rateHigh => decide (watchModeOf r.rateMode = .level)
    | .rateLow => decide (watchModeOf r.rateMode = .level)
    | .latency => decide (watchModeOf r.latencyMode = .level)
    | .targetMiss => false
    | .stale => false
    | .denied => false := hasCause_watchBits _ _ c

/-- The cause of an item is among them when its mode is LEVEL (R170). -/
theorem hasCause_levelBits_item (r : StreamRecord) (i : WatchItem) :
    hasCause (levelBits r) i.cause = decide (watchModeOf (i.code r) = .level) := by
  cases i <;> exact hasCause_levelBits r _

/-- An ACK clears the causes it names, but not a watch cause whose mode is LEVEL (R170). -/
theorem hasCause_ackStream (arg2 : Byte) (r : StreamRecord) (v : BitVec 6) (c : StreamCause) :
    hasCause (ackStream arg2 r v) c = (hasCause v c && !(hasCause (arg2.setWidth 6) c && !hasCause (levelBits r) c)) := by
  rw [ackStream, hasCause_and_not, hasCause_and_not]

/-- A cause set names a cause by the bit at its place (R206, R207). -/
theorem hasCause_setWidth (b : Byte) (c : StreamCause) : hasCause (b.setWidth 6) c = b.getLsbD c.place := by
  have inside : c.place < 6 := by cases c <;> decide
  rw [hasCause_eq, BitVec.getLsbD_setWidth]
  simp [inside]

/-- An ACK that names the cause of an item clears its status, unless its mode is LEVEL (R170). -/
theorem hasCause_ackStream_item (arg2 : Byte) (r : StreamRecord) (v : BitVec 6) (i : WatchItem)
    (named : arg2.getLsbD i.cause.place = true) : hasCause (ackStream arg2 r v) i.cause =
      (decide (watchModeOf (i.code r) = .level) && hasCause v i.cause) := by
  rw [hasCause_ackStream, hasCause_setWidth, named, hasCause_levelBits_item, Bool.and_comm]
  simp

/-- What a transition does to the causes of its stream: it passes the change of its item (R162). -/
theorem hasCause_passTransition (m : WatchMode) (tripped : Bool) (c d : StreamCause) (v : BitVec 6) :
    hasCause (passTransition m tripped c v) d = hasCause (passChange m (!tripped) tripped c v) d := by
  cases tripped <;> rfl

/-- Settles O30: a transition by the cases of a change of its item, the items one by one, and an ACK by the causes it names. -/
theorem watchModeTable : Obligations.WatchModeTable := by
  refine ⟨fun m c d v => ⟨?_, ?_, fun other tripped => ?_, fun b => ?_⟩, fun r x y v => ⟨?_, ?_, ?_, fun c event => ?_⟩,
    fun v c => ?_, fun arg2 r v => ⟨?_, ?_, ?_⟩⟩
  · simp [hasCause_passTransition, hasCause_passChange]
  · cases m <;> simp [hasCause_passTransition, hasCause_passChange]
  · simp [hasCause_passTransition, hasCause_passChange, other.symm]
  · cases b <;> simp [passChange]
  · exact hasCause_passWatch r x y v .high
  · exact hasCause_passWatch r x y v .low
  · exact hasCause_passWatch r x y v .latency
  · refine hasCause_passWatch_event r x y v fun i => ?_
    rcases event with rfl | rfl | rfl <;> cases i <;> simp [WatchItem.cause]
  · rw [hasCause_eq]
    cases c <;> rfl
  · exact hasCause_ackStream_item arg2 r v .high
  · exact hasCause_ackStream_item arg2 r v .low
  · exact hasCause_ackStream_item arg2 r v .latency

/-! ### The alert line (R167) -/

/-- Some set bit of a status has its mask bit clear. -/
theorem and_not_ne_zero_iff {w : Nat} (status mask : BitVec w) : (status &&& ~~~mask != 0) = true ↔
    ∃ i : Fin w, status.getLsbD i.val = true ∧ mask.getLsbD i.val = false := by
  rw [bne_iff_ne, Ne, BitVec.eq_of_getLsbD_eq_iff]
  push Not
  constructor
  · rintro ⟨i, inside, set⟩
    exact ⟨⟨i, inside⟩, by simpa [inside] using set⟩
  · rintro ⟨i, set⟩
    exact ⟨i.val, i.isLt, by simpa using set⟩

/-- Settles O48: the alert hold and the set statuses whose mask bits are clear, the global ones first. -/
theorem alertLine : Obligations.AlertLine := by
  intro a
  simp only [Alarm.driven, Bool.and_eq_true, Bool.not_eq_true', Bool.or_eq_true, and_not_ne_zero_iff, allStreams,
    List.any_eq_true, List.mem_finRange, true_and]

/-! ### REVERT and ACK (R170, R188, R206) -/

/-- A command that arrives while none is PENDING is carried out (R181). -/
theorem arriveAs_idle {s : State} (code : Byte) (act : State → State) (idle : s.cfg.slot.state ≠ .pending) :
    arriveAs code act s = act (takeCode code s) := by
  simp [arriveAs, State.slotPending, idle]

/-- ACK in the GLOBAL form clears the named global causes (R170, R206). -/
theorem ackClear_global {s : State} (form : (s.arg 2).getLsbD 7 = true) :
    ackClear s = { s.alm with globalStatus := s.alm.globalStatus &&& ~~~((s.arg 0).setWidth 7) } := by
  rw [ackClear, ackGlobal, if_pos form]

/-- ACK in the STREAM form clears the named causes of the named streams (R170, R206). -/
theorem ackClear_stream {s : State} (form : (s.arg 2).getLsbD 7 = false) :
    ackClear s = { s.alm with
      status := mapAll s.alm.status fun k v =>
        if ackNames (s.arg 0) (s.arg 1) k then ackStream (s.arg 2) (s.record k) v else v } := by
  rw [ackClear, ackGlobal, if_neg (by rw [form]; exact Bool.false_ne_true)]

/-- The statuses after an ACK in the STREAM form, cause by cause (R170, R206, R207). -/
theorem hasCause_acked (s : State) (k : StreamId) (c : StreamCause) :
    hasCause (if ackNames (s.arg 0) (s.arg 1) k then ackStream (s.arg 2) (s.record k) s.alm.status[k] else s.alm.status[k]) c =
      (hasCause s.alm.status[k] c && !(ackNames (s.arg 0) (s.arg 1) k && hasCause ((s.arg 2).setWidth 6) c &&
        !hasCause (levelBits (s.record k)) c)) := by
  cases ackNames (s.arg 0) (s.arg 1) k <;> simp [hasCause_ackStream]

/-- Settles O44: both commands are taken with no command PENDING and end DONE; the ACK by its form, and in the STREAM form cause by
cause. -/
theorem revertAndAck : Obligations.RevertAndAck := by
  intro s running idle
  have revert : exec .revert s = .next (actRevert (takeCode 0x02 s)) :=
    congrArg Host.Outcome.next ((whileRunning_running running).trans (arriveAs_idle _ _ idle))
  have ack : exec .ack s = .next (actAck (takeCode 0x03 s)) :=
    congrArg Host.Outcome.next ((whileRunning_running running).trans (arriveAs_idle _ _ idle))
  have acked : actAck (takeCode 0x03 s) = { finishCommand .done .ok .none (takeCode 0x03 s) with
      alm := ackClear (finishCommand .done .ok .none (takeCode 0x03 s)) } := rfl
  refine ⟨revert, fun form => ?_, fun form => ?_⟩
  · have clear := ackClear_global (s := finishCommand .done .ok .none (takeCode 0x03 s)) form
    rw [ack, acked, clear]
    rfl
  · have clear := ackClear_stream (s := finishCommand .done .ok .none (takeCode 0x03 s)) form
    rw [ack, acked, clear]
    refine ⟨_, rfl, fun k c => ?_⟩
    rw [mapAll_get]
    refine (hasCause_acked (finishCommand .done .ok .none (takeCode 0x03 s)) k c).trans ?_
    rw [hasCause_levelBits]
    cases c <;> simp only [ne_eq, decide_not] <;> rfl

end Sys2Proof.Machine.AlarmStatus

/-! The statuses of the watches under LEVEL (R163): what each operation of the device does to the watch items, to the statuses of
their causes and to the modes that tie the two. -/

namespace Sys2Proof.Machine.LevelStatus

open AlarmStatus
open StreamAccounts (foldl_keeps retireInCopy_stream_keeps)

/-! ### What R163 compares -/

/-- What R163 compares for one item of one stream: the mode of its watch, its state and the status of its cause. -/
structure ItemView where
  mode : WatchMode
  tripped : Bool
  status : Bool

/-- Under LEVEL the status is the item's state (R163). -/
def ItemView.Level (v : ItemView) : Prop := v.mode = .level → v.status = v.tripped

/-- The items of every stream as they stand. -/
def watchView (s : State) (k : StreamId) (i : WatchItem) : ItemView where
  mode := watchModeOf (i.code (s.record k))
  tripped := i.tripped s.mon.watches[k]
  status := hasCause s.alm.status[k] i.cause

theorem levelsSound_iff (s : State) : s.LevelsSound ↔ ∀ (k : StreamId) (i : WatchItem), (watchView s k i).Level := by
  refine forall_congr' fun k => ⟨fun ⟨rate, latency⟩ i => ?_, fun level => ⟨fun mode => ?_, level .latency⟩⟩
  · cases i with
    | high => exact fun mode => (rate mode).1
    | low => exact fun mode => (rate mode).2
    | latency => exact latency
  · exact ⟨level .high mode, level .low mode⟩

section
variable {s t : State}

/-- An operation that leaves the modes, the items and the statuses of the watches as they stand. -/
theorem watchView_congr (mode : ∀ (k : StreamId) (i : WatchItem), i.code (t.record k) = i.code (s.record k))
    (watches : t.mon.watches = s.mon.watches)
    (status : ∀ (k : StreamId) (i : WatchItem), hasCause t.alm.status[k] i.cause = hasCause s.alm.status[k] i.cause) :
    watchView t = watchView s := by
  funext k i
  simp only [watchView, mode, watches, status]

/-- An operation that leaves the active copy, the watches and the stream statuses alone. -/
theorem watchView_of_frame (frame : t.cfg.active = s.cfg.active ∧ t.mon.watches = s.mon.watches ∧
    t.alm.status = s.alm.status) : watchView t = watchView s := by
  obtain ⟨active, watches, status⟩ := frame
  exact watchView_congr (fun _ _ => by simp only [State.record, active]) watches fun _ _ => by rw [status]

/-- An operation that leaves the view as it stands keeps what R163 promises. -/
theorem levelsSound_of_watchView (same : watchView t = watchView s) (sound : s.LevelsSound) : t.LevelsSound := by
  rw [levelsSound_iff] at sound ⊢
  rwa [same]

end

/-! ### The causes that no watch reports (R135, R160) -/

/-- A cause that no watch reports is raised beside the causes of the watches. -/
theorem hasCause_or_event {c : StreamCause} (event : ∀ i : WatchItem, i.cause ≠ c) (v : BitVec 6) (i : WatchItem) :
    hasCause (v ||| c.bit) i.cause = hasCause v i.cause := by
  simp [hasCause_or_bit, (event i).symm]

theorem watchView_raiseStream {c : StreamCause} (event : ∀ i : WatchItem, i.cause ≠ c) (k : StreamId) (s : State) :
    watchView (raiseStream k c s) = watchView s := by
  refine watchView_congr (fun _ _ => rfl) rfl fun j i => ?_
  show hasCause (modAt s.alm.status k fun v => v ||| c.bit)[j] i.cause = _
  rw [modAt_get]
  split
  · exact hasCause_or_event event _ i
  · rfl

/-- A refusal raises DENIED or STALE of its stream, if any (R160). -/
theorem watchView_raiseRefusal (r : Reason) (k : Option StreamId) (s : State) :
    watchView (raiseRefusal r k s) = watchView s := by
  have denied (k : StreamId) : watchView (raiseStream k .denied s) = watchView s :=
    watchView_raiseStream (fun i => by cases i <;> simp [WatchItem.cause]) k s
  have stale (k : StreamId) : watchView (raiseStream k .stale s) = watchView s :=
    watchView_raiseStream (fun i => by cases i <;> simp [WatchItem.cause]) k s
  unfold raiseRefusal
  split
  · rfl
  · rfl
  · exact denied _
  · exact denied _
  · exact denied _
  · exact stale _
  all_goals rfl

/-- The mode adjustments raise TARGET_MISS only (R146). -/
theorem watchView_adjustModes (mean : Option Nat) (s : State) : watchView (adjustModes mean s) = watchView s := by
  refine watchView_congr (fun _ _ => rfl) rfl fun k i => ?_
  simp only [adjustModes, mapAll_get]
  split
  · exact hasCause_or_event (fun i => by cases i <;> simp [WatchItem.cause]) _ i
  · rfl

/-! ### The two reports that move the configuration -/

theorem watchView_checkPoolEmpty (s : State) : watchView (checkPoolEmpty s) = watchView s := watchView_of_frame (by simp)

/-- A retirement changes no watch mode (R191). -/
theorem watchView_completeRetirement (k : StreamId) (s : State) : watchView (completeRetirement k s) = watchView s :=
  watchView_congr (fun j i => retireInCopy_stream_keeps (fun r => i.code r) (fun _ => by cases i <;> rfl) k j
    s.cfg.active) rfl fun _ _ => rfl

theorem watchView_checkDrained (s : State) : watchView (checkDrained s) = watchView s := by
  rcases checkDrained_cases s with same | ⟨k, _, _, completed⟩
  · rw [same]
  · rw [completed, watchView_completeRetirement]

/-! ### Offers, refusals and expiries -/

theorem watchView_acceptStale (p : TagPair) (s : State) : watchView (acceptStale p s) = watchView s := by
  rw [acceptStale, watchView_checkDrained, watchView_checkPoolEmpty]
  exact watchView_of_frame (by simp)

theorem watchView_acceptLost (n : EntryId) (s : State) : watchView (acceptLost n s) = watchView s := by
  rcases acceptLost_cases n s with same | ⟨t, cause, _, accepted⟩
  · rw [same]
  · rw [accepted, watchView_checkDrained]
    rfl

theorem watchView_acceptOffer (o : Offer) (s : State) : watchView (acceptOffer o s) = watchView s := by
  obtain ⟨_ | p | n, e⟩ := o
  · rfl
  · exact watchView_acceptStale p { s with localList := s.localList ++ [e] }
  · exact watchView_acceptLost n { s with localList := s.localList ++ [e] }

theorem watchView_makeOffer (o : Offer) (s : State) : watchView (makeOffer o s) = watchView s := by
  unfold makeOffer
  split
  · exact watchView_acceptOffer o s
  · rfl

theorem watchView_acceptOldest (s : State) : watchView (acceptOldest s) = watchView s := by
  unfold acceptOldest
  split
  · rfl
  · next o rest _ =>
    split
    · exact watchView_acceptOffer o { s with offers := rest }
    · rfl

/-- The count and the cause of a refusal (R123, R160). -/
theorem watchView_countedRefusal (r : Reason) (k : Option StreamId) (s : State) :
    watchView (raiseRefusal r k (countRefusal r k s)) = watchView s := by
  rw [watchView_raiseRefusal]
  exact watchView_of_frame (by simp)

theorem watchView_refuse (req : Request) (reg : Bool) (r : Reason) (k : Option StreamId) (s : State) :
    watchView (refuse req reg r k s) = watchView s := by
  rw [refuse, watchView_makeOffer]
  exact watchView_countedRefusal r k s

theorem watchView_expireHeld (s : State) (h : Held) : watchView (expireHeld s h) = watchView s := by
  rw [expireHeld, watchView_makeOffer]
  exact watchView_countedRefusal .stale (some h.stream) _

theorem watchView_expireEntry (s : State) (n : EntryId) : watchView (expireEntry s n) = watchView s := by
  unfold expireEntry
  split
  · exact watchView_makeOffer _ _
  all_goals rfl

theorem watchView_regulatedChecks (req : Request) (reg : Bool) (s : State) :
    watchView (regulatedChecks req reg s) = watchView s := by
  rcases regulatedChecks_cases req reg s with h | h | ⟨_, h⟩ | h | ⟨_, h⟩ <;> rw [h]
  · exact watchView_refuse _ _ _ _ s
  · exact watchView_refuse _ _ _ _ s
  · exact watchView_of_frame (by simp)
  · exact watchView_refuse _ _ _ _ s
  · rfl

/-! ### The events of the traffic, the timers and the monitor -/

theorem watchView_finish (before s : State) : watchView (finish before s) = watchView s := watchView_of_frame (by simp)

theorem watchView_passPath (req : Request) (reg : Bool) (s : State) : watchView (passPath req reg s) = watchView s :=
  watchView_of_frame (by simp)

theorem watchView_takeRequest (req : Request) (s : State) : watchView (takeRequest req s) = watchView s := by
  have checked (reg : Bool) (v : State) : watchView (checkRequest req reg v) = watchView v := by
    unfold checkRequest
    split
    · exact watchView_refuse _ _ _ _ v
    split
    · exact watchView_refuse _ _ _ _ v
    split
    · exact watchView_regulatedChecks req reg v
    · exact watchView_passPath req reg v
    · rfl
  unfold takeRequest
  split
  · rfl
  split
  · exact checked false s
  · exact checked true { s with tagMap := s.tagMap ++ [pairOf req] }

theorem watchView_passIssue (s : State) : watchView (passIssue s) = watchView s := by
  unfold passIssue
  split
  · split
    · exact watchView_passPath _ _ s
    · rfl
  all_goals rfl

theorem watchView_expireStall (s : State) : watchView (expireStall s) = watchView s := by
  unfold expireStall
  split
  · split
    · exact watchView_refuse _ _ _ _ s
    · rfl
  all_goals rfl

theorem watchView_arrive (r : MemResponse) (s : State) : watchView (arrive r s) = watchView s := by
  have arrives (n : EntryId) : watchView (arriveAt n r s) = watchView s := by
    unfold arriveAt
    split <;> exact watchView_of_frame (by simp)
  unfold arrive
  split
  · rfl
  split
  · exact arrives _
  · rfl

theorem watchView_deliverDownstream (r : OfferedResponse) (s : State) : watchView (deliverDownstream r s) = watchView s := by
  unfold deliverDownstream
  split
  · exact watchView_checkDrained _
  all_goals rfl

theorem watchView_deliverLocal (e : LocalEntry) (rest : List LocalEntry) (s : State) :
    watchView (deliverLocal e rest s) = watchView s := by
  refine (watchView_acceptOldest _).trans ?_
  split <;> rfl

theorem watchView_deliverResponse (s : State) : watchView (deliverResponse s) = watchView s := by
  unfold deliverResponse
  split
  · rfl
  split
  · rfl
  · exact watchView_deliverDownstream _ s
  · exact watchView_deliverLocal _ _ s
  · exact watchView_deliverDownstream _ s
  · exact watchView_deliverLocal _ _ s

theorem watchView_issueGrant (s : State) : watchView (issueGrant s) = watchView s := by
  unfold issueGrant
  split
  · split
    · exact watchView_of_frame (by simp [issueHead])
    · rfl
  · rfl

theorem watchView_refillTick (s : State) : watchView (refillTick s) = watchView s := by
  unfold refillTick
  split <;> rfl

theorem watchView_adjust (hot : Bool) (s : State) : watchView (adjust hot s) = watchView s := by
  have acts (v : State) : watchView (actAdjustment hot v) = watchView v := by
    unfold actAdjustment
    dsimp only
    split
    · split
      · rfl
      · exact watchView_adjustModes _ _
    · split <;> rfl
  unfold adjust
  dsimp only
  split
  · split
    · exact acts _
    · rfl
  · rfl

theorem watchView_countDrains (s : State) : watchView (countDrains s) = watchView s :=
  foldl_keeps watchView (fun _ _ => watchView_of_frame (by simp)) _ s

theorem watchView_purge (s : State) : watchView (purge s) = watchView s := by
  rw [purge, watchView_checkDrained, watchView_checkPoolEmpty]
  exact watchView_countDrains s

theorem watchView_cutDownstream (s : State) : watchView (cutDownstream s) = watchView s :=
  foldl_keeps watchView (fun s o => watchView_makeOffer o s) _ _

/-! ### The evaluation of the watches and the commit (R132, R136, R163) -/

theorem watchView_setWatches (f : StreamId → Watch → Watch) (s : State) (k : StreamId) (i : WatchItem) :
    watchView (setWatches f s) k i = {
      mode := watchModeOf (i.code (s.record k))
      tripped := i.tripped (f k s.mon.watches[k])
      status := hasCause (passWatch (s.record k) s.mon.watches[k] (f k s.mon.watches[k]) s.alm.status[k]) i.cause } := by
  simp only [watchView, setWatches, State.record, mapAll_get]

section
variable {s : State}

/-- New watches pass their transitions, and under LEVEL each takes its status along (R135, R162). -/
theorem setWatches_levelsSound (f : StreamId → Watch → Watch) (sound : s.LevelsSound) : (setWatches f s).LevelsSound := by
  rw [levelsSound_iff] at sound ⊢
  intro k i
  rw [watchView_setWatches]
  intro (level : watchModeOf (i.code (s.record k)) = .level)
  show hasCause (passWatch _ _ _ _) i.cause = i.tripped (f k s.mon.watches[k])
  rw [hasCause_passWatch, level]
  exact hasCause_passChange_level _ (sound k i level)

/-- A publication moves the watches by an evaluation only (R126, R132). -/
theorem publish_levelsSound (sound : s.LevelsSound) : (publish s).LevelsSound := by
  have evaluated : (evaluateWatches (publishReport s)).LevelsSound := by
    have published : (publishReport s).LevelsSound := levelsSound_of_watchView (s := s) rfl sound
    unfold evaluateWatches
    split
    · exact setWatches_levelsSound _ published
    · exact published
  unfold publish
  split
  · exact levelsSound_of_watchView (s := evaluateWatches (publishReport s)) rfl evaluated
  · exact sound

end

/-- A commit clears the status of an item whose watch goes to LEVEL from another mode (R163). -/
theorem hasCause_commitStatus (old new : StreamRecord) (v : BitVec 6) (i : WatchItem) :
    hasCause (commitStatus old new v) i.cause =
      (hasCause v i.cause && !decide (i.code old ≠ i.code new ∧ watchModeOf (i.code new) = .level)) := by
  unfold commitStatus
  rw [hasCause_and_not]
  congr 2
  cases i <;> exact hasCause_watchBits _ _ _

/-- A commit that changes the mode of a watch clears its items (R136). -/
theorem tripped_commitWatch {old new : StreamRecord} {i : WatchItem} (changed : i.code old ≠ i.code new) (w : Watch) :
    i.tripped (commitWatch old new w) = false := by
  cases i <;> simp_all [WatchItem.code, WatchItem.tripped, commitWatch, rateWatchChanged, latencyWatchChanged]

/-- The watches after a commit, item by item (R136, R163). -/
theorem commitStatus_level {old new : StreamRecord} {w : Watch} {v : BitVec 6} {i : WatchItem}
    (before : watchModeOf (i.code old) = .level → hasCause v i.cause = i.tripped w)
    (after : watchModeOf (i.code new) = .level) :
    hasCause (commitStatus old new (passWatch new w (commitWatch old new w) v)) i.cause =
      i.tripped (commitWatch old new w) := by
  rw [hasCause_commitStatus]
  by_cases same : i.code old = i.code new
  · rw [hasCause_passWatch, after, hasCause_passChange_level _ (before (same ▸ after))]
    simp [same]
  · simp [same, after, tripped_commitWatch same]

section
variable {s : State}

theorem applySettings_levelsSound (c : Settings) (after : Regime) (sound : s.LevelsSound) :
    (applySettings c after s).LevelsSound := by
  rw [levelsSound_iff] at sound ⊢
  intro k i level
  simp only [watchView, applySettings, setWatches, State.record, mapAll_get] at level ⊢
  exact commitStatus_level (sound k i) level

theorem watchView_commitEpoch (s : State) : watchView (commitEpoch s) = watchView s := by
  unfold commitEpoch
  split <;> rfl

theorem watchView_reexamine (before : Regime) (s : State) : watchView (reexamine before s) = watchView s := by
  unfold reexamine
  split
  · split
    · exact watchView_refuse _ _ _ _ s
    split
    · exact watchView_of_frame (by simp)
    split
    · exact watchView_refuse _ _ _ _ s
    · rfl
  · rfl
  · exact watchView_passPath _ _ s
  · exact watchView_regulatedChecks _ _ s
  · exact watchView_regulatedChecks _ _ s
  · rfl

theorem watchView_commitTimeouts (old : Settings) (s : State) : watchView (commitTimeouts old s) = watchView s := by
  unfold commitTimeouts
  split
  · rfl
  · exact foldl_keeps watchView watchView_expireEntry _ s

/-- After its settings an applied commit moves no watch, no watch status and no mode. -/
theorem applyCommit_levelsSound (sound : s.LevelsSound) : (applyCommit s).LevelsSound := by
  unfold applyCommit
  refine levelsSound_of_watchView ?_ (applySettings_levelsSound s.cfg.staged
    (regimeAfter s.cfg.regime (requestsRegulate s.cfg.staged.global) s.pool.isEmpty) sound)
  rw [watchView_commitTimeouts, commitHolds, foldl_keeps watchView watchView_expireHeld, watchView_reexamine]
  exact watchView_commitEpoch _

theorem judgeCommit_levelsSound (sound : s.LevelsSound) : (judgeCommit s).LevelsSound := by
  unfold judgeCommit
  split
  · split
    · exact levelsSound_of_watchView (s := s) rfl sound
    · exact applyCommit_levelsSound sound
  · exact sound

/-! ### RESTART, ACK and the reset inputs (R163, R170, R172, R173) -/

/-- No item is TRIPPED and no status is SET. -/
theorem levelsSound_of_clear (watches : s.mon.watches = Vector.replicate 16 Watch.clear)
    (status : s.alm.status = Vector.replicate 16 0) : s.LevelsSound := by
  refine (levelsSound_iff s).mpr fun k i _ => ?_
  simp only [watchView, watches, status, Fin.getElem_fin, Vector.getElem_replicate]
  cases i <;> rfl

theorem actRestart_levelsSound (s : State) : (actRestart s).LevelsSound := levelsSound_of_clear rfl rfl

/-- An ACK leaves a status whose mode is LEVEL as it stands (R170). -/
theorem actAck_levelsSound (sound : s.LevelsSound) : (actAck s).LevelsSound := by
  rw [levelsSound_iff] at sound ⊢
  intro k i (level : watchModeOf (i.code (s.record k)) = .level)
  refine Eq.trans ?_ (sound k i level)
  show hasCause (ackClear (finishCommand .done .ok .none s)).status[k] i.cause = hasCause s.alm.status[k] i.cause
  unfold ackClear
  split
  · rfl
  · rw [mapAll_get]
    refine (hasCause_acked (finishCommand .done .ok .none s) k i.cause).trans ?_
    have atLevel : hasCause (levelBits ((finishCommand .done .ok .none s).record k)) i.cause = true := by
      rw [hasCause_levelBits_item]
      exact decide_eq_true level
    rw [atLevel, Bool.not_true, Bool.and_false, Bool.not_false, Bool.and_true]
    rfl

theorem assertReset_levelsSound (s : State) : (assertReset s).LevelsSound := levelsSound_of_clear rfl rfl

theorem watchView_deassertReset (straps : BitVec 2) (s : State) : watchView (deassertReset straps s) = watchView s := by
  unfold deassertReset
  split <;> rfl

/-! ### The commands of the command slot -/

/-- A command arrives: BUSY, or carried out when it is taken (R181). -/
theorem arriveAs_levelsSound {act : State → State} (code : Byte) (acts : ∀ t : State, t.LevelsSound → (act t).LevelsSound)
    (sound : s.LevelsSound) : (arriveAs code act s).LevelsSound := by
  unfold arriveAs
  split
  · exact levelsSound_of_watchView (s := s) rfl sound
  · exact acts _ (levelsSound_of_watchView (s := s) rfl sound)

theorem watchView_actCommit (s : State) : watchView (actCommit s) = watchView s := by
  unfold actCommit
  split <;> rfl

theorem watchView_actRetire (s : State) : watchView (actRetire s) = watchView s := by
  have refused (k : StreamId) (v : State) : watchView (refuseRetired k v) = watchView v := by
    unfold refuseRetired
    split
    · split
      · exact watchView_refuse _ _ _ _ v
      · rfl
    all_goals rfl
  unfold actRetire
  split
  · dsimp only
    split
    · rfl
    split
    · rfl
    · rw [watchView_checkDrained, refused]
      rfl
  · rfl

theorem takeCommit_levelsSound : s.LevelsSound → (takeCommit s).LevelsSound :=
  arriveAs_levelsSound _ fun t => levelsSound_of_watchView (watchView_actCommit t)

theorem takeRevert_levelsSound : s.LevelsSound → (takeRevert s).LevelsSound :=
  arriveAs_levelsSound _ fun t => levelsSound_of_watchView (s := t) rfl

theorem takeAck_levelsSound : s.LevelsSound → (takeAck s).LevelsSound :=
  arriveAs_levelsSound _ fun _ => actAck_levelsSound

theorem takeRetire_levelsSound : s.LevelsSound → (takeRetire s).LevelsSound :=
  arriveAs_levelsSound _ fun t => levelsSound_of_watchView (watchView_actRetire t)

theorem takeRestart_levelsSound : s.LevelsSound → (takeRestart s).LevelsSound :=
  arriveAs_levelsSound _ fun t _ => actRestart_levelsSound t

theorem watchView_takeCancel (s : State) : watchView (takeCancel s) = watchView s := by
  unfold takeCancel
  split <;> rfl

theorem commandArrives_levelsSound (code : Byte) (sound : s.LevelsSound) : (commandArrives code s).LevelsSound := by
  unfold commandArrives
  split
  · exact takeCommit_levelsSound sound
  split
  · exact takeRevert_levelsSound sound
  split
  · exact takeAck_levelsSound sound
  split
  · exact takeRetire_levelsSound sound
  split
  · exact takeRestart_levelsSound sound
  split
  · exact levelsSound_of_watchView (watchView_takeCancel s) sound
  · exact arriveAs_levelsSound _ (fun t => levelsSound_of_watchView (s := t) rfl) sound

/-! ### The management link -/

theorem watchView_writeStaged (page off v : Nat) (s : State) : watchView (writeStaged page off v s) = watchView s := by
  unfold writeStaged
  split
  · rfl
  split
  · rfl
  split
  · rfl
  split <;> rfl

theorem watchView_writeMask (which : MaskByte) (v : Byte) (s : State) : watchView (writeMask which v s) = watchView s := by
  cases which <;> rfl

/-- Of the completed writes outside the staged pages only a command can move a watch or a status of one (R201). -/
theorem completeOther_levelsSound (page off v : Nat) (sound : s.LevelsSound) : (completeOther page off v s).LevelsSound := by
  have written {t : State} (same : watchView t = watchView s) : t.LevelsSound := levelsSound_of_watchView same sound
  unfold completeOther
  dsimp only
  split
  · exact commandArrives_levelsSound _ sound
  split
  · exact written rfl
  split
  · exact written rfl
  split
  · exact written rfl
  split
  · exact written rfl
  split
  · exact written (watchView_writeMask _ _ s)
  split
  · exact written (watchView_writeMask _ _ s)
  · exact sound

theorem watchView_writeStagedByte (page off : Nat) (b : Byte) (s : State) :
    watchView (writeStagedByte page off b s) = watchView s := by
  unfold writeStagedByte
  split
  · rfl
  split
  · rfl
  split
  · exact watchView_writeStaged _ _ _ s
  · unfold writeLatched
    dsimp only
    split
    · exact watchView_writeStaged _ _ _ _
    · rfl

theorem receiveByte_levelsSound (b : Byte) (sound : s.LevelsSound) : (receiveByte b s).LevelsSound := by
  have moved {t : State} (same : watchView t = watchView s) : t.LevelsSound := levelsSound_of_watchView same sound
  have written {t : State} (page off : Nat) (sound : t.LevelsSound) : (writeAt page off b t).LevelsSound := by
    unfold writeAt
    split
    · exact levelsSound_of_watchView (watchView_writeStagedByte _ _ _ t) sound
    · exact completeOther_levelsSound _ _ _ sound
  unfold receiveByte
  split
  · exact moved rfl
  · exact moved rfl
  · split
    · exact levelsSound_of_watchView (s := writeAt _ _ _ _) rfl (written _ _ (moved rfl))
    · exact moved rfl
  · exact moved rfl
  · exact moved rfl

theorem watchView_clockByte (hot ack : Bool) (s : State) : watchView (clockByte hot ack s) = watchView s := by
  unfold clockByte
  split <;> rfl

theorem watchView_startTransfer (address : BitVec 7) (read : Bool) (s : State) :
    watchView (startTransfer address read s) = watchView s := by
  unfold startTransfer
  dsimp only
  split <;> rfl

theorem watchView_abandonTransfer (lowFor : Nat) (s : State) : watchView (abandonTransfer lowFor s) = watchView s := by
  unfold abandonTransfer
  split <;> rfl

/-! ### What every step keeps (R163) -/

theorem event_levelsSound {f : State → State} (acted : (f s).LevelsSound) (sound : s.LevelsSound) :
    (event f s).LevelsSound := by
  unfold event
  split
  · exact sound
  · exact levelsSound_of_watchView (watchView_finish s _) acted

theorem whileRunning_levelsSound {f : State → State} (acted : (f s).LevelsSound) (sound : s.LevelsSound) :
    (whileRunning f s).LevelsSound := by
  unfold whileRunning
  split
  · exact sound
  · exact acted

/-- A reset input that only moves its level while RESET# is asserted, and is an event otherwise. -/
theorem watchView_level {moved u : State} (level : watchView moved = watchView s) (same : watchView u = watchView s) :
    watchView (if s.pins.reset then moved else finish s u) = watchView s := by
  split
  · exact level
  · exact (watchView_finish s u).trans same

/-- Every command answers a state that keeps the statuses under LEVEL equal to their items. -/
theorem exec_levelsSound (c : Instr) (sound : s.LevelsSound) : ∃ t, exec c s = .next t ∧ t.LevelsSound := by
  have stays {t : State} (same : watchView t = watchView s) : t.LevelsSound := levelsSound_of_watchView same sound
  have passes {f : State → State} (same : watchView (f s) = watchView s) : (event f s).LevelsSound :=
    event_levelsSound (stays same) sound
  have managed {f : State → State} (same : watchView (f s) = watchView s) : (whileRunning f s).LevelsSound :=
    whileRunning_levelsSound (stays same) sound
  cases c with
  | requestTaken req => exact ⟨_, rfl, passes (watchView_takeRequest req s)⟩
  | placement => exact ⟨_, rfl, passes (watchView_of_frame (by simp))⟩
  | passIssue => exact ⟨_, rfl, passes (watchView_passIssue s)⟩
  | issue => exact ⟨_, rfl, passes (watchView_issueGrant s)⟩
  | responseArrival r => exact ⟨_, rfl, passes (watchView_arrive r s)⟩
  | responseDelivered => exact ⟨_, rfl, passes (watchView_deliverResponse s)⟩
  | offerAccepted => exact ⟨_, rfl, passes (watchView_acceptOldest s)⟩
  | stallTimeout => exact ⟨_, rfl, passes (watchView_expireStall s)⟩
  | holdTimeout who => exact ⟨_, rfl, passes (foldl_keeps watchView watchView_expireHeld _ s)⟩
  | responseTimeout who => exact ⟨_, rfl, passes (foldl_keeps watchView watchView_expireEntry _ s)⟩
  | refillTick => exact ⟨_, rfl, passes (watchView_refillTick s)⟩
  | publication => exact ⟨_, rfl, event_levelsSound (publish_levelsSound sound) sound⟩
  | adjustment hot => exact ⟨_, rfl, passes (watchView_adjust hot s)⟩
  | commitEvent => exact ⟨_, rfl, event_levelsSound (judgeCommit_levelsSound sound) sound⟩
  | poolEmpty => exact ⟨_, rfl, passes (watchView_checkPoolEmpty s)⟩
  | retirementCompletion => exact ⟨_, rfl, passes (watchView_checkDrained s)⟩
  | resetAssert => exact ⟨_, rfl, assertReset_levelsSound s⟩
  | resetDeassert straps => exact ⟨_, rfl, stays (watchView_deassertReset straps s)⟩
  | urstAssert => exact ⟨_, rfl, stays (watchView_level rfl (watchView_purge s))⟩
  | urstDeassert => exact ⟨_, rfl, stays rfl⟩
  | drstAssert => exact ⟨_, rfl, stays (watchView_level rfl (watchView_cutDownstream s))⟩
  | drstDeassert => exact ⟨_, rfl, stays (watchView_finish s (releaseDownstream s))⟩
  | transferStart address read => exact ⟨_, rfl, managed (watchView_startTransfer address read s)⟩
  | writeByte b => exact ⟨_, rfl, whileRunning_levelsSound (receiveByte_levelsSound b sound) sound⟩
  | readByte hot ack => exact ⟨_, rfl, managed (watchView_clockByte hot ack s)⟩
  | transferEnd => exact ⟨_, rfl, managed rfl⟩
  | sclTimeout lowFor => exact ⟨_, rfl, managed (watchView_abandonTransfer lowFor s)⟩
  | commit => exact ⟨_, rfl, whileRunning_levelsSound (takeCommit_levelsSound sound) sound⟩
  | revert => exact ⟨_, rfl, whileRunning_levelsSound (takeRevert_levelsSound sound) sound⟩
  | ack => exact ⟨_, rfl, whileRunning_levelsSound (takeAck_levelsSound sound) sound⟩
  | retire => exact ⟨_, rfl, whileRunning_levelsSound (takeRetire_levelsSound sound) sound⟩
  | restart => exact ⟨_, rfl, whileRunning_levelsSound (takeRestart_levelsSound sound) sound⟩
  | cancel => exact ⟨_, rfl, managed (watchView_takeCancel s)⟩
  | unknownCode code => exact ⟨_, rfl, whileRunning_levelsSound (commandArrives_levelsSound code sound) sound⟩
  | stagedWrite page offset value => exact ⟨_, rfl, managed (watchView_writeStaged _ _ _ s)⟩
  | maskWrite which value => exact ⟨_, rfl, managed (watchView_writeMask which value s)⟩
  | alertHoldWrite value => exact ⟨_, rfl, managed rfl⟩
  | fieldWrite arg value => exact ⟨_, rfl, managed rfl⟩
  | downstreamPortReady ready => exact ⟨_, rfl, stays (watchView_finish s (setReady ready s))⟩

theorem levelsSound_of_exec {c : Instr} {t : State} (sound : s.LevelsSound) (answer : exec c s = .next t) :
    t.LevelsSound := by
  obtain ⟨u, answered, kept⟩ := exec_levelsSound c sound
  rw [answered] at answer
  cases answer
  exact kept

end

/-- Settles O56: the evaluations pass their transitions under LEVEL, a commit into LEVEL starts the items and their statuses CLEAR,
RESTART and RESET# clear both, an ACK leaves the statuses under LEVEL, and every other command leaves the view of R163 as it
stands. -/
theorem levelStatusInvariant : Obligations.LevelStatusInvariant := by
  intro s t sound stepped
  unfold step at stepped
  split at stepped
  · next c rest _ => exact levelsSound_of_exec (s := { s with pending := rest }) sound stepped
  · unfold idle at stepped
    split at stepped
    · exact levelsSound_of_exec sound stepped
    · cases stepped
      split <;> exact sound

end Sys2Proof.Machine.LevelStatus

/-! The writes of the management link: what a completed field write does and which setting each place of the staged pages names
(R165, R166, R184, R190, R201, R202, R204, R205, R208), and the bytes of a write transfer (R197, R198, R201 to R203). -/

namespace Sys2Proof.Machine.FieldWrites

/-! ### The write of a staged field (R184, R190, R202) -/

/-- Only the state request of a RETIRING stream is guarded (R190). -/
theorem ignoredForRetiring_iff (s : State) (p : Place) (f : Field Settings) : ignoredForRetiring s p f = true ↔
    f.off = 0 ∧ ∃ k : StreamId, p = .stream k ∧ s.cfg.streamState[k] = .retiring := by
  cases p <;> simp [ignoredForRetiring]

section
variable {s : State} {page off v : Nat} {p : Place} {o : Nat} {f : Field Settings}

/-- A reserved place ignores the write (R202). -/
theorem writeStaged_reserved (reserved : stagedPlace page off = none ∨
    ∃ p o, stagedPlace page off = some (p, o) ∧ settingsField p o = none) : writeStaged page off v s = s := by
  unfold writeStaged
  rcases reserved with none | ⟨p, o, placed, none⟩
  · simp only [none]
  · simp only [placed, none]

/-- The write of a field, by its three outcomes (R184, R190). -/
theorem writeStaged_field (placed : stagedPlace page off = some (p, o)) (field : settingsField p o = some f) :
    writeStaged page off v s = if s.pendingCode 0x01 then discardWrite s
      else if ignoredForRetiring s p f then s else putStaged f v s := by
  unfold writeStaged
  simp only [placed, field]

/-- The write of a field that nothing holds back (R184). -/
theorem writeStaged_put (placed : stagedPlace page off = some (p, o)) (field : settingsField p o = some f)
    (free : s.pendingCode 0x01 = false) (heeded : ignoredForRetiring s p f = false) :
    writeStaged page off v s = putStaged f v s := by
  rw [writeStaged_field placed field, free, heeded]
  rfl

end

/-! ### The rows of a layout (R200) -/

/-- Fields that follow one another. -/
def Ordered {α : Type} (layout : List (Field α)) : Prop := layout.Pairwise fun f g => f.off + f.len ≤ g.off

/-- The field at an offset of an ordered layout is the one field that holds it. -/
theorem fieldAt_of_mem {α : Type} {layout : List (Field α)} (ordered : Ordered layout) {f : Field α} (mem : f ∈ layout)
    {o : Nat} (low : f.off ≤ o) (high : o < f.off + f.len) : fieldAt layout o = some f := by
  induction layout with
  | nil => simp at mem
  | cons g rest ih =>
    obtain ⟨first, others⟩ := List.pairwise_cons.mp ordered
    rw [fieldAt, List.find?_cons]
    rcases List.mem_cons.mp mem with rfl | later
    · simp [low, high]
    · have apart := first f later
      have skipped : (decide (g.off ≤ o) && decide (o < g.off + g.len)) = false := by simp; omega
      rw [skipped]
      exact ih others later

/-- No field holds the offset. -/
theorem fieldAt_eq_none {α : Type} {layout : List (Field α)} {o : Nat}
    (outside : ∀ f ∈ layout, ¬ (f.off ≤ o ∧ o < f.off + f.len)) : fieldAt layout o = none := by
  simpa [fieldAt] using outside

theorem ordered_globalLayout : Ordered globalLayout := by simp [Ordered, globalLayout]

theorem ordered_windowLayout : Ordered windowLayout := by simp [Ordered, windowLayout]

theorem ordered_streamLayout : Ordered streamLayout := by simp [Ordered, streamLayout]

/-- A row of a layout: the place of a field and the record after the write of a value. -/
def writtenRow {α : Type} (a : α) (v : Nat) (f : Field α) : Nat × Nat × α := (f.off, f.len, f.set a v)

/-! ### The places of the staged pages (R204) -/

theorem stagedPlace_global (off : Nat) : stagedPlace 0x01 off = some (.global, off) := rfl

/-- Window n stands at offset 16n of the pages 10h and 11h. -/
theorem stagedPlace_window (n : WindowId) {o : Nat} (inside : o < 16) :
    stagedPlace (0x10 + n.val / 16) (16 * (n.val % 16) + o) = some (.window n, o) := by
  have bound := n.isLt
  have sum : (0x10 + n.val / 16 - 0x10) * 256 + (16 * (n.val % 16) + o) = 16 * n.val + o := by omega
  have item : (16 * n.val + o) / 16 = n.val := by omega
  have rest : (16 * n.val + o) % 16 = o := by omega
  rw [stagedPlace, if_neg (by omega), if_pos (by omega), sum, windowPlace, dif_pos (by omega)]
  simp only [item, rest]

/-- Page 11h ends with reserved places. -/
theorem stagedPlace_beyond {o : Nat} (beyond : 0x80 ≤ o) : stagedPlace 0x11 o = none := by
  rw [stagedPlace, if_neg (by omega), if_pos (by omega), windowPlace, dif_neg (by omega)]

/-- Stream k stands at offset 64k of the pages 20h to 23h. -/
theorem stagedPlace_stream (k : StreamId) {o : Nat} (inside : o < 64) :
    stagedPlace (0x20 + k.val / 4) (64 * (k.val % 4) + o) = some (.stream k, o) := by
  have bound := k.isLt
  have sum : (0x20 + k.val / 4 - 0x20) * 256 + (64 * (k.val % 4) + o) = 64 * k.val + o := by omega
  have item : (64 * k.val + o) / 64 = k.val := by omega
  have rest : (64 * k.val + o) % 64 = o := by omega
  rw [stagedPlace, if_neg (by omega), if_neg (by omega), if_pos (by omega), sum, streamPlace, dif_pos (by omega)]
  simp only [item, rest]

/-! ### The completed writes (R165, R166, R184, R190, R201, R202) -/

section
variable {s : State}

/-- STAGED_WRITE completes the write of the field at its place (R184). -/
theorem exec_stagedWrite (running : s.Running) (page off : Byte) (v : BitVec 32) :
    exec (.stagedWrite page off v) s = .next (writeStaged page.toNat off.toNat v.toNat s) :=
  congrArg Host.Outcome.next (whileRunning_running running)

/-- The same for a place given by numbers. -/
theorem exec_stagedWrite_at (running : s.Running) {page off : Nat} (onPage : page < 256) (inside : off < 256) (v : BitVec 32) :
    exec (.stagedWrite (BitVec.ofNat 8 page) (BitVec.ofNat 8 off) v) s = .next (writeStaged page off v.toNat s) := by
  rw [exec_stagedWrite running, BitVec.toNat_ofNat, BitVec.toNat_ofNat, Nat.mod_eq_of_lt onPage, Nat.mod_eq_of_lt inside]

end

/-- An item of the staged copy with its layout: where it stands in the copy, and the fields that a write to it finds. -/
structure Item (α : Type) where
  place : Place
  layout : List (Field α)
  get : Settings → α
  set : Settings → α → Settings
  ordered : Ordered layout
  fields : ∀ o, settingsField place o = (fieldAt layout o).map fun f => f.within get set

def globalItem : Item GlobalSettings where
  place := .global
  layout := globalLayout
  get c := c.global
  set c g := { c with global := g }
  ordered := ordered_globalLayout
  fields _ := rfl

def windowItem (n : WindowId) : Item WindowEntry where
  place := .window n
  layout := windowLayout
  get c := c.windows[n]
  set c w := { c with windows := putAt c.windows n w }
  ordered := ordered_windowLayout
  fields _ := rfl

def streamItem (k : StreamId) : Item StreamRecord where
  place := .stream k
  layout := streamLayout
  get c := c.streams[k]
  set c r := { c with streams := putAt c.streams k r }
  ordered := ordered_streamLayout
  fields _ := rfl

/-- The records that the rows of an item give, for a staged copy and a value. -/
def Item.rows {α : Type} (item : Item α) (c : Settings) (v : BitVec 32) : List (Nat × Nat × α) :=
  item.layout.map (writtenRow (item.get c) v.toNat)

section
variable {s : State} {α : Type} {item : Item α} {page off o : Nat} {v : BitVec 32}

/-- A write at a place that a row names puts the record of the row into the staged copy (R184, R205, R208). -/
theorem writeStaged_row (free : s.pendingCode 0x01 = false) (placed : stagedPlace page off = some (item.place, o))
    {row : Nat × Nat × α} (mem : row ∈ item.rows s.cfg.staged v) (low : row.1 ≤ o) (high : o < row.1 + row.2.1)
    (heeded : row.1 = 0 → ∀ k : StreamId, item.place = .stream k → s.cfg.streamState[k] ≠ .retiring) :
    writeStaged page off v.toNat s =
      { s with cfg := { s.cfg with staged := item.set s.cfg.staged row.2.2 } } := by
  obtain ⟨f, field, rfl⟩ := List.mem_map.mp mem
  have found : settingsField item.place o = some (f.within item.get item.set) := by
    rw [item.fields, fieldAt_of_mem item.ordered field low high]
    rfl
  refine writeStaged_put placed found free ?_
  rw [Bool.eq_false_iff, Ne, ignoredForRetiring_iff]
  rintro ⟨first, k, stream, retiring⟩
  exact heeded first k stream retiring

/-- A write at a place that no row names is ignored (R202). -/
theorem writeStaged_noRow (placed : stagedPlace page off = some (item.place, o))
    (outside : ∀ row ∈ item.rows s.cfg.staged v, ¬ (row.1 ≤ o ∧ o < row.1 + row.2.1)) :
    writeStaged page off v.toNat s = s := by
  refine writeStaged_reserved (.inr ⟨_, _, placed, ?_⟩)
  rw [item.fields, fieldAt_eq_none fun f field => outside _ (List.mem_map_of_mem field)]
  rfl

end

/-- The completed writes of the other fields take their values (R165, R166, R201). -/
theorem exec_otherWrites {s : State} (running : s.Running) (v : Byte) :
    (∀ which, exec (.maskWrite which v) s = .next (writeMask which v s)) ∧
    exec (.alertHoldWrite v) s = .next (writeHold v s) ∧ ∀ i, exec (.fieldWrite i v) s = .next (writeArg i v s) :=
  ⟨fun _ => congrArg Host.Outcome.next (whileRunning_running running),
    congrArg Host.Outcome.next (whileRunning_running running),
    fun _ => congrArg Host.Outcome.next (whileRunning_running running)⟩

/-- A field at the lowest offset of a stream record is its state request, which has one byte (R208). -/
theorem streamLayout_first {row : Nat × Nat × StreamRecord} {k : StreamId} {c : Settings} {v : BitVec 32}
    (mem : row ∈ (streamItem k).rows c v) (first : row.1 = 0) : row.2.1 = 1 := by
  obtain ⟨f, field, rfl⟩ := List.mem_map.mp mem
  have single : ∀ f ∈ streamLayout, f.off = 0 → f.len = 1 := by simp [streamLayout]
  exact single f field first

/-- The outcomes of STAGED_WRITE (R184, R190, R202). -/
theorem exec_stagedWrite_outcomes {s : State} (running : s.Running) (page off : Byte) (v : BitVec 32) :
    ((stagedPlace page.toNat off.toNat = none ∨
        ∃ p o, stagedPlace page.toNat off.toNat = some (p, o) ∧ settingsField p o = none) →
      exec (.stagedWrite page off v) s = .next s) ∧
    ∀ p o f, stagedPlace page.toNat off.toNat = some (p, o) → settingsField p o = some f →
      (s.pendingCode 0x01 = true → exec (.stagedWrite page off v) s = .next (discardWrite s)) ∧
      (s.pendingCode 0x01 = false →
        let guarded := f.off = 0 ∧ ∃ k, p = .stream k ∧ s.cfg.streamState[k] = .retiring
        (guarded → exec (.stagedWrite page off v) s = .next s) ∧
        (¬ guarded → exec (.stagedWrite page off v) s = .next (putStaged f v.toNat s))) := by
  refine ⟨fun reserved => ?_, fun p o f placed field => ?_⟩
  · rw [exec_stagedWrite running, writeStaged_reserved reserved]
  · rw [exec_stagedWrite running, writeStaged_field placed field]
    refine ⟨fun pending => by rw [pending]; rfl, fun free => ⟨fun guarded => ?_, fun heeded => ?_⟩⟩
    · rw [free, (ignoredForRetiring_iff s p f).mpr guarded]
      rfl
    · rw [← ignoredForRetiring_iff, Bool.not_eq_true] at heeded
      rw [free, heeded]
      rfl

/-- Settles O42: the three outcomes of a staged write, the other completed writes, and the rows of each layout at its places. -/
theorem completedWrites : Obligations.CompletedWrites := by
  refine ⟨fun page off v s running => exec_stagedWrite_outcomes running page off v, fun v s running => ?_,
    fun v s running free => ?_⟩
  · obtain ⟨masks, hold, args⟩ := exec_otherWrites running v
    exact ⟨fun k => masks (.stream k), masks .global, hold, args⟩
  · intro writes c g byte half globals window stream
    have globalRows : globals = globalItem.rows c v := by
      simp [globals, g, byte, half, Item.rows, globalItem, globalLayout, writtenRow]
    have windowRows (n : WindowId) : window c.windows[n] = (windowItem n).rows c v := by
      simp [window, byte, Item.rows, windowItem, windowLayout, writtenRow, BitVec.testBit_toNat, -Nat.testBit_zero]
    have streamRows (k : StreamId) : stream c.streams[k] = (streamItem k).rows c v := by
      simp [stream, byte, half, Item.rows, streamItem, streamLayout, writtenRow]
    have written {page base o : Nat} (onPage : page < 256) (inside : base + o < 256) {staged : Settings}
        (write : writeStaged page (base + o) v.toNat s = { s with cfg := { s.cfg with staged := staged } }) :
        writes page base o staged :=
      (exec_stagedWrite_at running onPage inside v).trans (congrArg Host.Outcome.next write)
    refine ⟨fun o inside => ⟨fun row mem low high => ?_, fun outside => ?_⟩, fun n o inside => ?_, fun o beyond inside => ?_,
      fun k o inside => ?_⟩
    · rw [globalRows] at mem
      exact written (by omega) (by omega) (writeStaged_row (item := globalItem) free (stagedPlace_global _) mem (by omega)
        (by omega) fun _ k other => by cases other)
    · rw [globalRows] at outside
      exact written (by omega) (by omega) (writeStaged_noRow (item := globalItem) (stagedPlace_global _)
        (by simpa using outside))
    · have bound := n.isLt
      have placed := stagedPlace_window n inside
      rw [windowRows]
      refine ⟨fun row mem low high => written (by omega) (by omega) ?_, fun outside => written (by omega) (by omega) ?_⟩
      · exact writeStaged_row (item := windowItem n) free placed mem low high fun _ k other => by cases other
      · exact writeStaged_noRow (item := windowItem n) placed outside
    · exact written (by omega) (by omega) (writeStaged_reserved (.inl (stagedPlace_beyond (by omega))))
    · have bound := k.isLt
      have placed := stagedPlace_stream k inside
      rw [streamRows]
      refine ⟨fun row mem low high heeded => written (by omega) (by omega) ?_,
        fun outside => written (by omega) (by omega) ?_⟩
      · refine writeStaged_row (item := streamItem k) free placed mem low high fun first j same retiring => heeded ?_
        have single := streamLayout_first mem first
        cases same
        exact ⟨by omega, retiring⟩
      · exact writeStaged_noRow (item := streamItem k) placed outside

end Sys2Proof.Machine.FieldWrites

/-! The bytes of a write transfer (R165, R166, R181, R197, R198, R201 to R203, R206, R207). -/

namespace Sys2Proof.Machine.WriteTransfer

/-! ### The places outside the staged pages (R165, R166, R181, R201, R206, R207) -/

section
variable {s : State} {page off v : Nat} {b : Byte}

/-- A byte at a place outside the staged pages completes its field. -/
theorem writeAt_other (other : isStagedPage page = false) : writeAt page off b s = completeOther page off b.toNat s := by
  rw [writeAt, if_neg (by simp [other])]

/-- The place of the command code. -/
theorem completeOther_command (s : State) (b : Byte) : completeOther 0x03 0x00 b.toNat s = commandArrives b s := by
  simp [completeOther]

/-- The places of the request arguments. -/
theorem completeOther_arg (s : State) (b : Byte) (i : Fin 3) : completeOther 0x03 (0x01 + i.val) b.toNat s = writeArg i b s := by
  match i with
  | 0 => simp [completeOther]
  | 1 => simp [completeOther]
  | 2 => simp [completeOther]

/-- The place of the alert hold. -/
theorem completeOther_hold (s : State) (b : Byte) : completeOther 0x03 0x10 b.toNat s = writeHold b s := by
  simp [completeOther]

/-- The places of the stream masks. -/
theorem completeOther_streamMask (s : State) (b : Byte) (k : StreamId) :
    completeOther 0x04 (0x20 + k.val) b.toNat s = writeMask (.stream k) b s := by
  have inside : 0x20 ≤ 0x20 + k.val ∧ 0x20 + k.val ≤ 0x2F := by omega
  simp [completeOther, inside]

/-- The place of the global mask. -/
theorem completeOther_globalMask (s : State) (b : Byte) : completeOther 0x04 0x30 b.toNat s = writeMask .global b s := by
  simp [completeOther]

/-- Every other place ignores the byte. -/
theorem completeOther_ignored (command : ¬ (page = 0x03 ∧ (off ≤ 0x03 ∨ off = 0x10)))
    (alarm : ¬ (page = 0x04 ∧ 0x20 ≤ off ∧ off ≤ 0x30)) : completeOther page off v s = s := by
  unfold completeOther
  dsimp only
  rw [if_neg (by omega), if_neg (by omega), if_neg (by omega), if_neg (by omega), if_neg (by omega), dif_neg (by omega),
    if_neg (by omega)]

/-! ### The places of the staged pages (R201, R202) -/

theorem writeAt_staged (staged : isStagedPage page = true) : writeAt page off b s = writeStagedByte page off b s := by
  rw [writeAt, if_pos staged]

/-- A reserved place ignores the byte. -/
theorem writeStagedByte_reserved (reserved : stagedPlace page off = none ∨
    ∃ p o, stagedPlace page off = some (p, o) ∧ settingsField p o = none) : writeStagedByte page off b s = s := by
  unfold writeStagedByte
  rcases reserved with none | ⟨p, o, placed, none⟩
  · simp only [none]
  · simp only [placed, none]

/-- A byte of a field: at once, or through the write latch (R201). -/
theorem writeStagedByte_field {p : Place} {o : Nat} {f : Field Settings} (placed : stagedPlace page off = some (p, o))
    (field : settingsField p o = some f) : writeStagedByte page off b s =
      if f.len = 1 then writeStaged page off b.toNat s else writeLatched page (off - o + f.off) f (o - f.off) b s := by
  unfold writeStagedByte
  simp only [placed, field]

/-! ### A byte of a write transfer (R197, R198, R203) -/

theorem exec_writeByte (running : s.Running) (b : Byte) : exec (.writeByte b) s = .next (receiveByte b s) :=
  congrArg Host.Outcome.next (whileRunning_running running)

/-- The byte after the page and offset bytes is written at the pointer, which moves on (R198). -/
theorem receiveByte_data (data : s.link.state = .writeData) (inside : s.link.offset < 256) :
    receiveByte b s = setAck true (writeAt s.link.page.toNat s.link.offset b
      { s with link := { s.link with offset := s.link.offset + 1 } }) := by
  have moved : setPointer s.link.page (s.link.offset + 1) .writeData s =
      { s with link := { s.link with offset := s.link.offset + 1 } } := by rw [← data]; rfl
  rw [← moved]
  unfold receiveByte
  simp only [data, inside, if_true]

/-- Beyond the end of the page a byte is not acknowledged (R198). -/
theorem receiveByte_beyond (data : s.link.state = .writeData) (beyond : 256 ≤ s.link.offset) :
    receiveByte b s = setAck false s := by
  unfold receiveByte
  simp only [data, Nat.not_lt.mpr beyond, if_false]

/-- Outside a write transfer a byte is not acknowledged (R197, R203). -/
theorem receiveByte_outside (outside : s.link.state = .idle ∨ s.link.state = .read) : receiveByte b s = setAck false s := by
  unfold receiveByte
  rcases outside with idle | read
  · simp only [idle]
  · simp only [read]

end

/-- Settles O40: the states of a write transfer, and a data byte by the kind of its place. -/
theorem writtenBytes : Obligations.WrittenBytes := by
  refine ⟨fun b s running => ?_, mergeBytes_bytes, fun page => ?_, fun page off v s running =>
    FieldWrites.exec_stagedWrite running page off v, fun _ => rfl⟩
  · simp only [exec_writeByte running]
    refine ⟨fun atPage => ?_, fun atOffset => ?_, fun data beyond => ?_, fun outside => ?_, fun data inside => ?_⟩
    · simp only [receiveByte, atPage]
      rfl
    · simp only [receiveByte, atOffset]
      rfl
    · rw [receiveByte_beyond data beyond]
      rfl
    · rw [receiveByte_outside outside]
      rfl
    · simp only [receiveByte_data data inside]
      refine ⟨fun other => ?_, fun staged => ?_⟩
      · simp only [writeAt_other other]
        refine ⟨fun page off => ⟨_, congrArg Host.Outcome.next (whileRunning_running running), ?_⟩, fun i page off => ?_,
          fun page off => ?_, fun k page off => ?_, fun page off => ?_, fun command alarm => ?_⟩
        · rw [page, off, completeOther_command]
          rfl
        · rw [page, off, completeOther_arg]
          rfl
        · rw [page, off, completeOther_hold]
          rfl
        · rw [page, off, completeOther_streamMask]
          rfl
        · rw [page, off, completeOther_globalMask]
          rfl
        · rw [completeOther_ignored command alarm]
          rfl
      · simp only [writeAt_staged staged]
        refine ⟨fun none => ?_, fun p o placed => ⟨fun none => ?_, fun f field => ⟨fun single => ?_, fun multi => ?_⟩⟩⟩
        · rw [writeStagedByte_reserved (.inl none)]
          rfl
        · rw [writeStagedByte_reserved (.inr ⟨p, o, placed, none⟩)]
          rfl
        · rw [writeStagedByte_field placed field, if_pos single]
        · rw [writeStagedByte_field placed field, if_neg multi, writeLatched]
          refine ⟨fun more => ?_, fun last => ?_⟩
          · rw [if_neg more]
            rfl
          · rw [if_pos last]
            rfl
  · simp [isStagedPage, or_assoc]

end Sys2Proof.Machine.WriteTransfer

/-! The arrival of commands at the command slot: CANCEL, BUSY and UNKNOWN (R181, R194, R206). -/

namespace Sys2Proof.Machine.CommandArrival

/-! ### BUSY (R181) -/

theorem slotPending_iff (s : State) : s.slotPending = true ↔ s.cfg.slot.state = .pending := by
  simp [State.slotPending]

/-- While a command is PENDING, whatever else arrives is refused BUSY (R181). -/
theorem arriveAs_pending {s : State} (code : Byte) (act : State → State) (pending : s.cfg.slot.state = .pending) :
    arriveAs code act s = refuseBusy s := by
  rw [arriveAs, if_pos ((slotPending_iff s).mpr pending)]

/-- A command other than CANCEL, by its code and what it does when it is taken, is refused BUSY (R181). -/
theorem whileRunning_arriveAs_pending {s : State} (running : s.Running) (pending : s.cfg.slot.state = .pending) (code : Byte)
    (act : State → State) :
    (Host.Outcome.next (whileRunning (arriveAs code act) s) : Host.Outcome State Fault Refusal) = .next (refuseBusy s) :=
  congrArg Host.Outcome.next ((whileRunning_running running).trans (arriveAs_pending code act pending))

/-! ### CANCEL (R194) -/

theorem exec_cancel {s : State} (running : s.Running) : exec .cancel s = .next (takeCancel s) :=
  congrArg Host.Outcome.next (whileRunning_running running)

/-- CANCEL ends the PENDING command (R194). -/
theorem takeCancel_pending {s : State} (pending : s.cfg.slot.state = .pending) :
    takeCancel s = finishCommand .cancelled .cancelled s.cfg.slot.detail
      { s with cfg := { s.cfg with streamState := unretire s.cfg.streamState } } := by
  rw [takeCancel, if_pos ((slotPending_iff s).mpr pending)]

/-- With nothing to end, CANCEL is taken and refused (R194). -/
theorem takeCancel_idle {s : State} (idle : s.cfg.slot.state ≠ .pending) :
    takeCancel s = finishCommand .refused .nothingPending .none (takeCode 0x06 s) := by
  rw [takeCancel, if_neg (mt (slotPending_iff s).mp idle)]

theorem unretire_get (v : Vector StreamState 16) (k : StreamId) :
    (unretire v)[k] = if v[k] = .retiring then .on else v[k] :=
  mapAll_get v _ k

/-! ### Codes that name no command (R181, R206) -/

theorem exec_unknownCode {s : State} (running : s.Running) (code : Byte) :
    exec (.unknownCode code) s = .next (commandArrives code s) :=
  congrArg Host.Outcome.next (whileRunning_running running)

theorem namesCommand_iff (code : Byte) : namesCommand code = true ↔ 1 ≤ code.toNat ∧ code.toNat ≤ 6 := by
  simp [namesCommand]

/-- A code outside 01h to 06h differs from the code of every command (R206). -/
theorem ne_of_unnamed {code named : Byte} (unnamed : namesCommand code = false) (names : namesCommand named = true) :
    code ≠ named := by
  rintro rfl
  exact Bool.false_ne_true (unnamed.symm.trans names)

/-- A code that names no command arrives as a command that is taken only to be refused (R181). -/
theorem commandArrives_unnamed {code : Byte} (s : State) (unnamed : namesCommand code = false) :
    commandArrives code s = arriveAs code actUnknown s := by
  have apart (named : Byte) (names : namesCommand named = true) : code ≠ named := ne_of_unnamed unnamed names
  rw [commandArrives, if_neg (apart 0x01 rfl), if_neg (apart 0x02 rfl), if_neg (apart 0x03 rfl), if_neg (apart 0x04 rfl),
    if_neg (apart 0x05 rfl), if_neg (apart 0x06 rfl)]

/-- Settles O47: CANCEL by whether a command is PENDING; every other command through its arrival, which is BUSY while one is
PENDING; and a code that names no command is taken and refused. -/
theorem cancelBusyUnknown : Obligations.CancelBusyUnknown := by
  intro s running
  refine ⟨fun pending => ⟨unretire s.cfg.streamState, ?_, unretire_get s.cfg.streamState⟩, fun idle => ?_, fun pending => ?_,
    namesCommand_iff, fun code unnamed => ⟨fun pending => ?_, fun idle => ?_⟩, rfl, rfl, rfl, rfl, rfl, rfl⟩
  · rw [exec_cancel running, takeCancel_pending pending]
    rfl
  · rw [exec_cancel running, takeCancel_idle idle]
    rfl
  · have busy := whileRunning_arriveAs_pending running pending
    exact ⟨busy 0x01 actCommit, busy 0x02 actRevert, busy 0x03 actAck, busy 0x04 actRetire, busy 0x05 actRestart⟩
  · rw [exec_unknownCode running, commandArrives_unnamed s unnamed, arriveAs_pending code actUnknown pending]
    rfl
  · rw [exec_unknownCode running, commandArrives_unnamed s unnamed, AlarmStatus.arriveAs_idle code actUnknown idle]
    rfl

end Sys2Proof.Machine.CommandArrival

/-! The management link: where a transfer begins and ends (R197, R203), the bytes of a read transfer (R199, R200, R202), and what
stands at every place of every page (R204 to R210). -/

namespace Sys2Proof.Machine.ReadTransfer

/-! ### The start and the ends of a transfer (R197, R203) -/

section
variable {s : State}

theorem exec_transferStart (running : s.Running) (address : BitVec 7) (read : Bool) :
    exec (.transferStart address read) s = .next (startTransfer address read s) :=
  congrArg Host.Outcome.next (whileRunning_running running)

theorem exec_transferEnd (running : s.Running) : exec .transferEnd s = .next (endTransfer s) :=
  congrArg Host.Outcome.next (whileRunning_running running)

theorem exec_sclTimeout (running : s.Running) (lowFor : Nat) : exec (.sclTimeout lowFor) s = .next (abandonTransfer lowFor s) :=
  congrArg Host.Outcome.next (whileRunning_running running)

/-- The device's own address begins a transfer and is acknowledged (R197). -/
theorem startTransfer_own {address : BitVec 7} (own : address.toNat = targetAddress s.link.straps) (read : Bool) :
    startTransfer address read s = setAck true
      { endTransfer s with link := { (endTransfer s).link with state := if read then .read else .writePage } } :=
  if_pos own

/-- Another address ends the transfer in progress and is not acknowledged (R197). -/
theorem startTransfer_other {address : BitVec 7} (other : address.toNat ≠ targetAddress s.link.straps) (read : Bool) :
    startTransfer address read s = setAck false (endTransfer s) :=
  if_neg other

/-- SCL low for the time of the timeout ends a transfer in progress (R203). -/
theorem abandonTransfer_due {lowFor : Nat} (within : s.link.state ≠ .idle) (low : Config.sclLowMin ≤ lowFor)
    (high : lowFor ≤ Config.sclLowMax) : abandonTransfer lowFor s = endTransfer s :=
  if_pos ⟨within, low, high⟩

/-- Outside a transfer, and at any other time, nothing ends (R203). -/
theorem abandonTransfer_notDue {lowFor : Nat}
    (outside : s.link.state = .idle ∨ lowFor < Config.sclLowMin ∨ Config.sclLowMax < lowFor) : abandonTransfer lowFor s = s := by
  refine if_neg ?_
  rintro ⟨within, low, high⟩
  rcases outside with idle | early | late
  · exact within idle
  · exact Nat.not_le.mpr early low
  · exact Nat.not_le.mpr late high

end

/-- Settles O39: the address byte by whose address it is, the stop, and the low of SCL by its length. -/
theorem linkTransfers : Obligations.LinkTransfers := by
  intro s running ended
  refine ⟨fun address read => ⟨fun own => ?_, fun other => ?_⟩, exec_transferEnd running, fun lowFor within low high => ?_,
    fun lowFor outside => ?_⟩
  · rw [exec_transferStart running, startTransfer_own own]
    rfl
  · rw [exec_transferStart running, startTransfer_other other]
    rfl
  · rw [exec_sclTimeout running, abandonTransfer_due within low high]
    rfl
  · rw [exec_sclTimeout running, abandonTransfer_notDue outside]

/-! ### The byte at a place (R199, R200, R202) -/

section
variable {s : State} {page off : Nat} {f : PageField}

/-- The end of the page reads 00h (R199). -/
theorem readAt_beyond (beyond : 256 ≤ off) : readAt s page off = (0, s.link.readLatch) := by
  rw [readAt, if_pos beyond]

/-- A reserved place reads 00h (R202). -/
theorem readAt_reserved (inside : off < 256) (reserved : fieldOf s page off = none) :
    readAt s page off = (0, s.link.readLatch) := by
  unfold readAt
  simp only [Nat.not_le.mpr inside, if_false, reserved]

theorem readAt_field (inside : off < 256) (field : fieldOf s page off = some f) : readAt s page off =
    if f.len = 1 then (byteOf f.value 0, s.link.readLatch) else latchedRead page off f s.link.readLatch := by
  unfold readAt
  simp only [Nat.not_le.mpr inside, if_false, field]

/-- The lowest byte of a field is its value in eight bits. -/
theorem byteOf_zero (v : Nat) : byteOf v 0 = BitVec.ofNat 8 v := by simp [byteOf]

/-- A single-byte field leaves the latch alone (R200). -/
theorem readAt_single (inside : off < 256) (field : fieldOf s page off = some f) (single : f.len = 1) :
    readAt s page off = (BitVec.ofNat 8 f.value, s.link.readLatch) := by
  rw [readAt_field inside field, if_pos single, byteOf_zero]

/-- The lowest byte of a multi-byte field loads the latch (R200). -/
theorem readAt_lowest (inside : off < 256) (field : fieldOf s page off = some f) (multi : f.len ≠ 1) (lowest : off = f.off) :
    readAt s page off = (BitVec.ofNat 8 f.value, some { page := page, offset := off, value := f.value }) := by
  rw [readAt_field inside field, if_neg multi, latchedRead.eq_def, if_pos lowest, byteOf_zero, ← lowest]

/-- A further byte comes from the latch that holds the field (R200). -/
theorem readAt_latched (inside : off < 256) (field : fieldOf s page off = some f) (multi : f.len ≠ 1) (further : off ≠ f.off)
    {r : ReadLatch} (latch : s.link.readLatch = some r) (samePage : r.page = page) (sameField : r.offset = f.off) :
    readAt s page off = (byteOf r.value (off - f.off), s.link.readLatch) := by
  rw [readAt_field inside field, if_neg multi, latchedRead.eq_def, if_neg further, latch]
  exact if_pos ⟨samePage, sameField⟩

/-- Without a latch that holds the field, a further byte comes from the present value (R200). -/
theorem readAt_present (inside : off < 256) (field : fieldOf s page off = some f) (multi : f.len ≠ 1) (further : off ≠ f.off)
    (unlatched : ∀ r, s.link.readLatch = some r → ¬ (r.page = page ∧ r.offset = f.off)) :
    readAt s page off = (byteOf f.value (off - f.off), s.link.readLatch) := by
  rw [readAt_field inside field, if_neg multi, latchedRead.eq_def, if_neg further]
  cases latch : s.link.readLatch with
  | none => rfl
  | some r => exact if_neg (unlatched r latch)

end

/-! ### A byte of a read transfer (R199) -/

section
variable {s : State}

theorem exec_readByte (running : s.Running) (hot ack : Bool) : exec (.readByte hot ack) s = .next (clockByte hot ack s) :=
  congrArg Host.Outcome.next (whileRunning_running running)

/-- Outside a read transfer, and after a byte that was not acknowledged, nothing is sent (R199). -/
theorem exec_readByte_silent (running : s.Running) (hot ack : Bool) (silent : s.link.state ≠ .read ∨ s.link.readEnded = true) :
    exec (.readByte hot ack) s = .next s := by
  rw [exec_readByte running, clockByte, if_neg]
  rintro ⟨reading, going⟩
  rcases silent with other | ended
  · exact other reading
  · exact Bool.false_ne_true (going.symm.trans ended)

/-- The byte at the pointer is sent, and the pointer moves on (R199). -/
theorem exec_readByte_sends (running : s.Running) (hot ack : Bool) (reading : s.link.state = .read)
    (going : s.link.readEnded = false) {b : Byte} {latch : Option ReadLatch}
    (byte : readAt { s with pins := { s.pins with hot := hot } } s.link.page.toNat s.link.offset = (b, latch)) :
    exec (.readByte hot ack) s = .next { s with
      pins := { s.pins with hot := hot }
      link := { s.link with offset := min 256 (s.link.offset + 1), readEnded := !ack, readLatch := latch }
      ports := { s.ports with linkSent := s.ports.linkSent ++ [b] } } := by
  rw [exec_readByte running, clockByte, if_pos ⟨reading, going⟩, sendByte]
  simp only [byte]

end

/-! ### The page map (R202, R204) -/

section
variable {s : State} {page off o : Nat}

/-- The pages of the staged copy are the ones that place its items. -/
theorem isStagedPage_of_placed {at' : Place × Nat} (placed : stagedPlace page off = some at') : isStagedPage page = true := by
  by_contra other
  simp only [isStagedPage, Bool.or_eq_true, Bool.and_eq_true, beq_iff_eq, decide_eq_true_eq] at other
  rw [stagedPlace, if_neg (by omega), if_neg (by omega), if_neg (by omega)] at placed
  cases placed

/-- The pages of the staged copy. -/
theorem fieldOf_staged (staged : isStagedPage page = true) :
    fieldOf s page off = settingsPageField s.cfg.staged (stagedPlace page off) off := by
  have other : page ≠ 0x00 := by rintro rfl; cases staged
  rw [fieldOf, if_neg other, if_pos staged]

/-- The active copy has its items where the staged copy has them, on pages of its own. -/
theorem activePlace_global (off : Nat) : activePlace 0x02 off = stagedPlace 0x01 off := rfl

theorem activePlace_window {p : Nat} (onPages : p < 2) (off : Nat) : activePlace (0x12 + p) off = stagedPlace (0x10 + p) off := by
  interval_cases p <;> rfl

theorem activePlace_stream {p : Nat} (onPages : p < 4) (off : Nat) : activePlace (0x24 + p) off = stagedPlace (0x20 + p) off := by
  interval_cases p <;> rfl

/-- The pages of the active copy. -/
theorem fieldOf_active {at' : Place × Nat} (placed : activePlace page off = some at') :
    fieldOf s page off = settingsPageField s.cfg.active (some at') off := by
  have onPage : page = 0x02 ∨ (0x12 ≤ page ∧ page ≤ 0x13) ∨ (0x24 ≤ page ∧ page ≤ 0x27) := by
    by_contra other
    rw [activePlace, if_neg (by omega), if_neg (by omega), if_neg (by omega)] at placed
    cases placed
  have unstaged : ¬ isStagedPage page = true := by
    simp only [isStagedPage, Bool.or_eq_true, Bool.and_eq_true, beq_iff_eq, decide_eq_true_eq]
    omega
  rw [fieldOf, if_neg (by omega), if_neg unstaged, placed]
  rfl

/-- The pages of the windows end with reserved places. -/
theorem fieldOf_beyondWindows (s : State) (beyond : 0x80 ≤ o) : fieldOf s 0x11 o = none ∧ fieldOf s 0x13 o = none := by
  have reserved := FieldWrites.stagedPlace_beyond beyond
  refine ⟨?_, ?_⟩
  · rw [fieldOf_staged rfl, reserved]
    rfl
  · have unplaced : activePlace 0x13 o = none := (activePlace_window (p := 1) (by omega) o).trans reserved
    simp [fieldOf, isStagedPage, unplaced]

/-- Behind the last record there is no field. -/
theorem recordField_beyond {n size : Nat} (fields : Fin n → List PageField) (positive : 0 < size)
    (beyond : n * size ≤ page * 256 + off) : recordField size fields page off = none :=
  dif_neg (Nat.not_lt.mpr ((Nat.le_div_iff_mul_le positive).mpr beyond))

end

/-! ### The rows of the records (R205, R208 to R210) -/

/-- What an item of a copy of the configuration reads, as rows. -/
def readRows {α : Type} (item : FieldWrites.Item α) (c : Settings) : List (Nat × Nat × Nat) :=
  item.layout.map fun f => (f.off, f.len, f.get (item.get c))

/-- The field of an item placed at `base`. -/
theorem settingsPageField_item {α : Type} (item : FieldWrites.Item α) (c : Settings) (base o : Nat) :
    settingsPageField c (some (item.place, o)) (base + o) = (rowAt (readRows item c) o).map (rowField base) := by
  rw [readRows, ← fieldAt_rows]
  simp only [settingsPageField, item.fields, Option.map_map, Function.comp_def, Field.within, Nat.add_sub_cancel]

section
variable {s : State} {page base off o : Nat} {rows : List (Nat × Nat × Nat)}

theorem fieldOf_stagedItem {α : Type} (item : FieldWrites.Item α) (placed : stagedPlace page off = some (item.place, o))
    (place : off = base + o) : fieldOf s page off = (rowAt (readRows item s.cfg.staged) o).map (rowField base) := by
  rw [fieldOf_staged (isStagedPage_of_placed placed), placed, place, settingsPageField_item]

theorem fieldOf_activeItem {α : Type} (item : FieldWrites.Item α) (placed : activePlace page off = some (item.place, o))
    (place : off = base + o) : fieldOf s page off = (rowAt (readRows item s.cfg.active) o).map (rowField base) := by
  rw [fieldOf_active placed, place, settingsPageField_item]

/-- A record that is given by rows, on its pages. -/
theorem recordField_rows {n size : Nat} {fields : Fin n → List PageField} {i : Fin n} (given : fields i = rows.map (rowField 0))
    (inside : o < size) (place : page * 256 + base = size * i.val) :
    recordField size fields page (base + o) = (rowAt rows o).map (rowField base) := by
  rw [recordField_at fields i inside place, given, pageFieldAt_rows]

end

/-! ### The values on the pages (R208 to R210) -/

/-- A flag is 0 or 1. -/
theorem flag_value (weight : Nat) (b : Bool) : weight * b.toNat = if b then weight else 0 := by
  cases b with
  | false => rfl
  | true => exact Nat.mul_one weight

/-- Whether a value is there, as a flag. -/
theorem present_value {α : Type} (weight : Nat) (m : Option α) [Decidable (m = none)] :
    weight * m.isSome.toNat = if m = none then 0 else weight := by
  cases m with
  | none => simp
  | some v => simp

/-- The kind of a request as bit 6 (R209). -/
theorem kind_value (k : Kind) : 64 * Kind.code k = if k = .write then 64 else 0 := by
  cases k with
  | read => rfl
  | write => rfl

/-- The flags of a window entry, bit by bit (R208). -/
theorem windowFlags_eq (w : WindowEntry) : windowFlags w = (if w.valid then 1 else 0) + if w.matchRange then 2 else 0 := by
  rw [windowFlags, flag_value, ← flag_value 1, Nat.one_mul]

/-- The head of a stream's queue is held back by a guard, as bit 0 (R209). -/
theorem guardBlocked_value (s : State) (k : StreamId) : (s.guardBlocked k).toNat =
    (s.queueHead k).elim 0 fun h => if h.guards = 0 then 0 else 1 := by
  rw [State.guardBlocked]
  cases s.queueHead k with
  | none => rfl
  | some h => by_cases free : h.guards = 0 <;> simp [free]

/-- Settles O41: a byte by its place in the field that holds it, and the field at each place by the rows of its page. -/
theorem readBytes : Obligations.ReadBytes := by
  refine ⟨fun hot ack s running => ⟨exec_readByte_silent running hot ack, fun reading going => ?bytes⟩, fun s => ?live,
    fun s => ?configuration, fun r => ?codes, rfl, rfl, rfl, fun k => ?named, fun s k => ⟨rfl, rfl, ?prot⟩⟩
  case bytes =>
    intro u page off sends
    have sent {b : Byte} {latch : Option ReadLatch} (byte : readAt u page off = (b, latch)) : sends b latch :=
      exec_readByte_sends running hot ack reading going byte
    refine ⟨fun beyond => sent (readAt_beyond beyond), fun inside reserved => sent (readAt_reserved inside reserved),
      fun f inside field => ⟨fun single => sent (readAt_single inside field single),
        fun multi lowest => sent (readAt_lowest inside field multi lowest), fun multi further =>
        ⟨fun r latch samePage sameField => sent (readAt_latched inside field multi further latch samePage sameField),
          fun unlatched => sent (readAt_present inside field multi further unlatched)⟩⟩⟩
  case live =>
    intro row signed tripped pressure device slot command alarm live flight mean present report total
    have livePageRows : livePage s = device.map (rowField 0) := rfl
    have commandPageRows : commandPage s = command.map (rowField 0) := rfl
    have alarmPageRows : alarmPage s = alarm.map (rowField 0) := rfl
    have liveStreamRows (k : StreamId) : liveStream s k = (live k).map (rowField 0) := by
      rw [liveStream, guardBlocked_value]
      dsimp only [live]
      cases s.queueHead k with
      | none => rfl
      | some h => rfl
    have flightRows (n : EntryId) : flightRecord s n = (flight n).map (rowField 0) := by
      simp only [flightRecord, kind_value, present_value]
      dsimp only [flight]
      -- what the view shows turns on the entry's state and on whether its transaction has a stream
      rcases s.table[n] with _ | ⟨⟨pair, _ | k, kind, beats, issued⟩, latency⟩ | ⟨⟨pair, _ | k, kind, beats, issued⟩, cause⟩ |
        ⟨⟨pair, _ | k, kind, beats, issued⟩, cause⟩ <;> rfl
    have means (m : Option Nat) : m.getD 0 = mean m := by
      cases m with
      | none => rfl
      | some v => rfl
    have presents (m : Option Nat) : m.isSome.toNat = present m := (Nat.one_mul _).symm.trans (present_value 1 m)
    have reportRows (k : StreamId) : streamRecordPage s k = (report k).map (rowField 0) := by
      simp only [streamRecordPage, means, presents]
      rfl
    have totalRows : globalRecordPage s = total.map (rowField 0) := by
      simp only [globalRecordPage, means, presents]
      rfl
    refine ⟨fun o _ => ⟨?_, ?_, ?_, ?_⟩, fun k o inside => ⟨?_, ?_⟩, fun n o inside => ?_, fun o beyond _ => ?_,
      fun page off => fieldOf_unnamed s off⟩
    · rw [fieldOf_live, livePageRows, pageFieldAt_rows_zero]
      rfl
    · rw [fieldOf_command, commandPageRows, pageFieldAt_rows_zero]
      rfl
    · rw [fieldOf_alarm, alarmPageRows, pageFieldAt_rows_zero]
      rfl
    · rw [fieldOf_globalRecord, totalRows, pageFieldAt_rows_zero]
      rfl
    · have bound := k.isLt
      rw [fieldOf_liveStream s (by omega)]
      exact recordField_rows (liveStreamRows k) inside (by omega)
    · have bound := k.isLt
      rw [fieldOf_streamRecord s (by omega)]
      exact recordField_rows (reportRows k) inside (by omega)
    · intro base
      have bound := n.isLt
      rw [fieldOf_flightRecord s (by omega)]
      exact recordField_rows (flightRows n) inside (by omega)
    · rw [fieldOf_flightRecord (p := 1) s (by omega)]
      exact recordField_beyond _ (by omega) (by omega)
  case configuration =>
    intro row globals window stream
    have globalRows (c : Settings) : globals c.global = readRows FieldWrites.globalItem c := rfl
    have windowRows (n : WindowId) (c : Settings) : window c.windows[n] = readRows (FieldWrites.windowItem n) c := by
      simp only [window, ← windowFlags_eq]
      rfl
    have streamRows (k : StreamId) (c : Settings) : stream c.streams[k] = readRows (FieldWrites.streamItem k) c := rfl
    refine ⟨fun o _ => ⟨?_, ?_⟩, fun n o inside => ⟨?_, ?_⟩, fun o beyond _ => fieldOf_beyondWindows s beyond,
      fun k o inside => ⟨?_, ?_⟩, fun page off place o inside placed => ?_⟩
    · rw [globalRows]
      exact fieldOf_stagedItem FieldWrites.globalItem (FieldWrites.stagedPlace_global o) (Nat.zero_add o).symm
    · rw [globalRows]
      exact fieldOf_activeItem FieldWrites.globalItem (activePlace_global o) (Nat.zero_add o).symm
    · rw [windowRows]
      exact fieldOf_stagedItem (FieldWrites.windowItem n) (FieldWrites.stagedPlace_window n inside) rfl
    · have bound := n.isLt
      rw [windowRows]
      exact fieldOf_activeItem (FieldWrites.windowItem n)
        ((activePlace_window (by omega) _).trans (FieldWrites.stagedPlace_window n inside)) rfl
    · rw [streamRows]
      exact fieldOf_stagedItem (FieldWrites.streamItem k) (FieldWrites.stagedPlace_stream k inside) rfl
    · have bound := k.isLt
      rw [streamRows]
      exact fieldOf_activeItem (FieldWrites.streamItem k)
        ((activePlace_stream (by omega) _).trans (FieldWrites.stagedPlace_stream k inside)) rfl
    · rw [fieldOf_staged (isStagedPage_of_placed placed), placed]
      rfl
  case codes =>
    refine ⟨fun code => ?_, fun code => ?_, fun code => ?_, fun code => ?_, fun code => ?_, fun code => ?_, ?_⟩
    · simp [classOf, code]
    · simp [classOf, code]
    · simp [classOf, code]
    · simp [modeOf, code]
    · simp [modeOf, code]
    · simp [modeOf, code]
    · simp [requestsOn]
  case named =>
    ext
    simp [streamNamed]
  case prot => simp [State.isProtected]

end Sys2Proof.Machine.ReadTransfer

/-! The queue of commands: a step runs the command at its front, and every command answers a next state and leaves the commands
that wait as they stand, the reset inputs included (00_scope, Coincident events). -/

namespace Sys2Proof.Machine.CommandQueue

open StreamAccounts (foldl_keeps)

/-! ### The operations of the traffic -/

section
variable (s : State)

theorem checkRequest_pending (req : Request) (registered : Bool) : (checkRequest req registered s).pending = s.pending := by
  unfold checkRequest
  split
  · simp only [refuse_frame]
  split
  · simp only [refuse_frame]
  split
  · simp only [regulatedChecks_frame]
  · simp only [passPath_frame]
  · rfl

theorem takeRequest_pending (req : Request) : (takeRequest req s).pending = s.pending := by
  unfold takeRequest
  split
  · rfl
  split
  · exact checkRequest_pending s req false
  · exact checkRequest_pending { s with tagMap := s.tagMap ++ [pairOf req] } req true

theorem passIssue_pending : (passIssue s).pending = s.pending := by
  unfold passIssue
  split
  · split
    · simp only [passPath_frame]
    · rfl
  all_goals rfl

theorem issueGrant_pending : (issueGrant s).pending = s.pending := by
  unfold issueGrant
  split
  · split
    · simp [issueHead]
    · rfl
  · rfl

theorem arriveAt_pending (n : EntryId) (r : MemResponse) : (arriveAt n r s).pending = s.pending := by
  unfold arriveAt
  split <;> simp

theorem arrive_pending (r : MemResponse) : (arrive r s).pending = s.pending := by
  unfold arrive
  split
  · rfl
  split
  · exact arriveAt_pending s _ r
  · simp only [orphan_frame]

theorem deliverDownstream_pending (r : OfferedResponse) : (deliverDownstream r s).pending = s.pending := by
  unfold deliverDownstream
  split <;> simp

theorem deliverLocal_pending (e : LocalEntry) (rest : List LocalEntry) : (deliverLocal e rest s).pending = s.pending := by
  unfold deliverLocal
  dsimp only
  split <;> simp

theorem deliverResponse_pending : (deliverResponse s).pending = s.pending := by
  unfold deliverResponse
  split
  · rfl
  split
  · rfl
  · exact deliverDownstream_pending s _
  · exact deliverLocal_pending s _ _
  · exact deliverDownstream_pending s _
  · exact deliverLocal_pending s _ _

theorem acceptOldest_pending : (acceptOldest s).pending = s.pending := by simp only [acceptOldest_frame]

theorem retestSlot_pending : (retestSlot s).pending = s.pending := by simp only [retestSlot_frame]

theorem checkPoolEmpty_pending : (checkPoolEmpty s).pending = s.pending := by simp only [checkPoolEmpty_frame]

theorem checkDrained_pending : (checkDrained s).pending = s.pending := by simp only [checkDrained_frame]

/-! ### The timers -/

theorem expireStall_pending : (expireStall s).pending = s.pending := by
  unfold expireStall
  split
  · split
    · simp only [refuse_frame]
    · rfl
  all_goals rfl

theorem foldl_expireHeld_pending (l : List Held) : (l.foldl expireHeld s).pending = s.pending :=
  foldl_keeps State.pending (fun _ _ => by simp only [expireHeld_frame]) l s

theorem foldl_expireEntry_pending (l : List EntryId) : (l.foldl expireEntry s).pending = s.pending :=
  foldl_keeps State.pending (fun _ _ => by simp only [expireEntry_frame]) l s

theorem refillTick_pending : (refillTick s).pending = s.pending := by
  unfold refillTick
  split <;> rfl

/-! ### The epoch boundary -/

theorem evaluateWatches_pending : (evaluateWatches s).pending = s.pending := by
  unfold evaluateWatches
  split
  · simp only [setWatches_frame]
  · rfl

theorem publish_pending : (publish s).pending = s.pending := by
  unfold publish
  split
  · simp [evaluateWatches_pending]
  · rfl

theorem actAdjustment_pending (hot : Bool) : (actAdjustment hot s).pending = s.pending := by
  unfold actAdjustment
  dsimp only
  split
  · split
    · simp only [enterEmergency_frame]
    · simp only [adjustModes_frame]
  · split
    · simp only [exitEmergency_frame]
    · rfl

theorem adjust_pending (hot : Bool) : (adjust hot s).pending = s.pending := by
  unfold adjust
  dsimp only
  split
  · split
    · exact actAdjustment_pending _ hot
    · rfl
  · rfl

theorem applySettings_pending (c : Settings) (after : Regime) : (applySettings c after s).pending = s.pending := by
  simp only [applySettings, setWatches_frame]

theorem commitEpoch_pending : (commitEpoch s).pending = s.pending := by
  unfold commitEpoch
  split
  · simp only [beginEpoch_frame]
  · rfl

theorem reexamine_pending (before : Regime) : (reexamine before s).pending = s.pending := by
  unfold reexamine
  split
  · split
    · simp only [refuse_frame]
    split
    · simp only [place_frame]
    split
    · simp only [refuse_frame]
    · rfl
  · rfl
  · simp only [passPath_frame]
  · simp only [regulatedChecks_frame]
  · simp only [regulatedChecks_frame]
  · rfl

theorem commitHolds_pending (old : Settings) : (commitHolds old s).pending = s.pending := foldl_expireHeld_pending s _

theorem commitTimeouts_pending (old : Settings) : (commitTimeouts old s).pending = s.pending := by
  unfold commitTimeouts
  split
  · rfl
  · exact foldl_expireEntry_pending s _

/-- The parts of an applied commit, from the last to the first (R187). -/
theorem applyCommit_pending : (applyCommit s).pending = s.pending := by
  simp only [applyCommit, commitTimeouts_pending, commitHolds_pending, reexamine_pending, finishCommand_frame,
    commitEpoch_pending, applySettings_pending]

theorem judgeCommit_pending : (judgeCommit s).pending = s.pending := by
  unfold judgeCommit
  split
  · split
    · simp only [finishCommand_frame]
    · exact applyCommit_pending s
  · rfl

/-! ### The reset inputs -/

theorem deassertReset_pending (straps : BitVec 2) : (deassertReset straps s).pending = s.pending := by
  unfold deassertReset
  split
  · simp only [beginEpoch_frame]
  · rfl

theorem countDrains_pending : (countDrains s).pending = s.pending :=
  foldl_keeps State.pending (fun _ _ => by simp only [countTo_frame]) _ s

theorem purge_pending : (purge s).pending = s.pending := by
  simp only [purge, checkDrained_frame, checkPoolEmpty_frame, setPool_frame, countDrains_pending]

theorem cutDownstream_pending : (cutDownstream s).pending = s.pending :=
  foldl_keeps State.pending (fun _ _ => by simp only [makeOffer_frame]) _ _

/-! ### The commands of the command slot -/

theorem arriveAs_pending {act : State → State} (acts : ∀ t : State, (act t).pending = t.pending) (code : Byte) :
    (arriveAs code act s).pending = s.pending := by
  unfold arriveAs
  split
  · simp only [refuseBusy_frame]
  · rw [acts]
    simp only [takeCode_frame]

theorem actCommit_pending : (actCommit s).pending = s.pending := by
  unfold actCommit
  split
  · simp only [finishCommand_frame]
  · simp only [becomePending_frame]

theorem actRevert_pending : (actRevert s).pending = s.pending := by simp only [actRevert, finishCommand_frame]

theorem actAck_pending : (actAck s).pending = s.pending := by simp only [actAck, finishCommand_frame]

theorem refuseRetired_pending (k : StreamId) : (refuseRetired k s).pending = s.pending := by
  unfold refuseRetired
  split
  · split
    · simp only [refuse_frame]
    · rfl
  all_goals rfl

theorem actRetire_pending : (actRetire s).pending = s.pending := by
  unfold actRetire
  split
  · dsimp only
    split
    · simp only [finishCommand_frame]
    split
    · simp only [finishCommand_frame]
    · simp only [checkDrained_frame, refuseRetired_pending, becomePending_frame, startRetiring_frame]
  · simp only [finishCommand_frame]

theorem actRestart_pending : (actRestart s).pending = s.pending := by
  simp only [actRestart, markStarved_frame, beginEpoch_frame, finishCommand_frame]

theorem actUnknown_pending : (actUnknown s).pending = s.pending := by simp only [actUnknown, finishCommand_frame]

theorem takeCommit_pending : (takeCommit s).pending = s.pending := arriveAs_pending s actCommit_pending _

theorem takeRevert_pending : (takeRevert s).pending = s.pending := arriveAs_pending s actRevert_pending _

theorem takeAck_pending : (takeAck s).pending = s.pending := arriveAs_pending s actAck_pending _

theorem takeRetire_pending : (takeRetire s).pending = s.pending := arriveAs_pending s actRetire_pending _

theorem takeRestart_pending : (takeRestart s).pending = s.pending := arriveAs_pending s actRestart_pending _

theorem takeCancel_pending : (takeCancel s).pending = s.pending := by
  unfold takeCancel
  split
  · simp only [finishCommand_frame]
  · simp only [finishCommand_frame, takeCode_frame]

theorem commandArrives_pending (code : Byte) : (commandArrives code s).pending = s.pending := by
  unfold commandArrives
  split
  · exact takeCommit_pending s
  split
  · exact takeRevert_pending s
  split
  · exact takeAck_pending s
  split
  · exact takeRetire_pending s
  split
  · exact takeRestart_pending s
  split
  · exact takeCancel_pending s
  · exact arriveAs_pending s actUnknown_pending code

/-! ### The management link -/

theorem writeStaged_pending (page off v : Nat) : (writeStaged page off v s).pending = s.pending := by
  unfold writeStaged
  split
  · rfl
  split
  · rfl
  split
  · simp only [discardWrite_frame]
  split
  · rfl
  · simp only [putStaged_frame]

theorem writeMask_pending (which : MaskByte) (v : Byte) : (writeMask which v s).pending = s.pending := by
  simp only [writeMask_frame]

theorem completeOther_pending (page off v : Nat) : (completeOther page off v s).pending = s.pending := by
  unfold completeOther
  dsimp only
  split
  · exact commandArrives_pending s _
  split
  · rfl
  split
  · rfl
  split
  · rfl
  split
  · rfl
  split
  · exact writeMask_pending s _ _
  split
  · exact writeMask_pending s _ _
  · rfl

theorem writeLatched_pending (page lo : Nat) (f : Field Settings) (i : Nat) (b : Byte) :
    (writeLatched page lo f i b s).pending = s.pending := by
  unfold writeLatched
  dsimp only
  split
  · exact writeStaged_pending (setWriteLatch none s) _ _ _
  · rfl

theorem writeStagedByte_pending (page off : Nat) (b : Byte) : (writeStagedByte page off b s).pending = s.pending := by
  unfold writeStagedByte
  split
  · rfl
  split
  · rfl
  split
  · exact writeStaged_pending s _ _ _
  · exact writeLatched_pending s _ _ _ _ b

theorem writeAt_pending (page off : Nat) (b : Byte) : (writeAt page off b s).pending = s.pending := by
  unfold writeAt
  split
  · exact writeStagedByte_pending s page off b
  · exact completeOther_pending s page off _

theorem receiveByte_pending (b : Byte) : (receiveByte b s).pending = s.pending := by
  unfold receiveByte
  split
  · rfl
  · rfl
  · split
    · simp only [setAck_frame, writeAt_pending, setPointer_frame]
    · rfl
  · rfl
  · rfl

theorem clockByte_pending (hot ack : Bool) : (clockByte hot ack s).pending = s.pending := by
  unfold clockByte
  split <;> rfl

theorem startTransfer_pending (address : BitVec 7) (read : Bool) : (startTransfer address read s).pending = s.pending := by
  unfold startTransfer
  dsimp only
  split <;> rfl

theorem abandonTransfer_pending (lowFor : Nat) : (abandonTransfer lowFor s).pending = s.pending := by
  unfold abandonTransfer
  split <;> rfl

end

/-! ### What a command answers -/

section
variable {s u : State} {f : State → State}

/-- What follows an event leaves the queue alone (R56, R109). -/
theorem finish_pending (keeps : u.pending = s.pending) : (finish s u).pending = s.pending := by
  simp only [finish_frame, keeps]

theorem event_pending (keeps : (f s).pending = s.pending) : (event f s).pending = s.pending := by
  unfold event
  split
  · rfl
  · exact finish_pending keeps

theorem whileRunning_pending (keeps : (f s).pending = s.pending) : (whileRunning f s).pending = s.pending := by
  unfold whileRunning
  split
  · rfl
  · exact keeps

theorem urstAssert_pending (s : State) :
    (if s.pins.reset then { s with pins := { s.pins with urst := true } } else finish s (purge s)).pending = s.pending := by
  split
  · rfl
  · exact finish_pending (purge_pending s)

theorem drstAssert_pending (s : State) :
    (if s.pins.reset then { s with pins := { s.pins with drst := true } } else finish s (cutDownstream s)).pending =
      s.pending := by
  split
  · rfl
  · exact finish_pending (cutDownstream_pending s)

end

/-- Settles O2: each command answers what its operation makes of the state, and no operation touches the queue. -/
theorem everyCommandAnswers : Obligations.EveryCommandAnswers := by
  intro c s
  cases c with
  | requestTaken req => exact ⟨_, rfl, event_pending (takeRequest_pending s req)⟩
  | placement => exact ⟨_, rfl, event_pending (retestSlot_pending s)⟩
  | passIssue => exact ⟨_, rfl, event_pending (passIssue_pending s)⟩
  | issue => exact ⟨_, rfl, event_pending (issueGrant_pending s)⟩
  | responseArrival r => exact ⟨_, rfl, event_pending (arrive_pending s r)⟩
  | responseDelivered => exact ⟨_, rfl, event_pending (deliverResponse_pending s)⟩
  | offerAccepted => exact ⟨_, rfl, event_pending (acceptOldest_pending s)⟩
  | stallTimeout => exact ⟨_, rfl, event_pending (expireStall_pending s)⟩
  | holdTimeout who => exact ⟨_, rfl, event_pending (foldl_expireHeld_pending s _)⟩
  | responseTimeout who => exact ⟨_, rfl, event_pending (foldl_expireEntry_pending s _)⟩
  | refillTick => exact ⟨_, rfl, event_pending (refillTick_pending s)⟩
  | publication => exact ⟨_, rfl, event_pending (publish_pending s)⟩
  | adjustment hot => exact ⟨_, rfl, event_pending (adjust_pending s hot)⟩
  | commitEvent => exact ⟨_, rfl, event_pending (judgeCommit_pending s)⟩
  | poolEmpty => exact ⟨_, rfl, event_pending (checkPoolEmpty_pending s)⟩
  | retirementCompletion => exact ⟨_, rfl, event_pending (checkDrained_pending s)⟩
  | resetAssert => exact ⟨_, rfl, rfl⟩
  | resetDeassert straps => exact ⟨_, rfl, deassertReset_pending s straps⟩
  | urstAssert => exact ⟨_, rfl, urstAssert_pending s⟩
  | urstDeassert => exact ⟨_, rfl, rfl⟩
  | drstAssert => exact ⟨_, rfl, drstAssert_pending s⟩
  | drstDeassert => exact ⟨_, rfl, finish_pending (u := releaseDownstream s) rfl⟩
  | transferStart address read => exact ⟨_, rfl, whileRunning_pending (startTransfer_pending s address read)⟩
  | writeByte b => exact ⟨_, rfl, whileRunning_pending (receiveByte_pending s b)⟩
  | readByte hot ack => exact ⟨_, rfl, whileRunning_pending (clockByte_pending s hot ack)⟩
  | transferEnd => exact ⟨_, rfl, whileRunning_pending (f := endTransfer) rfl⟩
  | sclTimeout lowFor => exact ⟨_, rfl, whileRunning_pending (abandonTransfer_pending s lowFor)⟩
  | commit => exact ⟨_, rfl, whileRunning_pending (takeCommit_pending s)⟩
  | revert => exact ⟨_, rfl, whileRunning_pending (takeRevert_pending s)⟩
  | ack => exact ⟨_, rfl, whileRunning_pending (takeAck_pending s)⟩
  | retire => exact ⟨_, rfl, whileRunning_pending (takeRetire_pending s)⟩
  | restart => exact ⟨_, rfl, whileRunning_pending (takeRestart_pending s)⟩
  | cancel => exact ⟨_, rfl, whileRunning_pending (takeCancel_pending s)⟩
  | unknownCode code => exact ⟨_, rfl, whileRunning_pending (commandArrives_pending s code)⟩
  | stagedWrite page offset value => exact ⟨_, rfl, whileRunning_pending (writeStaged_pending s _ _ _)⟩
  | maskWrite which value => exact ⟨_, rfl, whileRunning_pending (writeMask_pending s which value)⟩
  | alertHoldWrite value => exact ⟨_, rfl, whileRunning_pending (f := writeHold value) rfl⟩
  | fieldWrite arg value => exact ⟨_, rfl, whileRunning_pending (f := writeArg arg value) rfl⟩
  | downstreamPortReady ready => exact ⟨_, rfl, finish_pending (u := setReady ready s) rfl⟩

/-- Settles O1: the front of a queue that is not empty is what a step looks at first. -/
theorem queueFrontRuns : Obligations.QueueFrontRuns := by
  intro c rest s front
  unfold step
  rw [front]

end Sys2Proof.Machine.CommandQueue

/-! The moves of the traffic: the elementary changes of the entry stage, the tag map, the local response list, the waiting
offers, the hold pool, the in-flight table and the offered response, of which every command is a run. An invariant of the
traffic that each move keeps is kept by every step. -/

namespace Sys2Proof.Machine.TrafficMoves

/-! ### What the moves speak of -/

/-- The entry stage holds this request, which waits for a slot, for the drain or for an entry (R5). -/
inductive Waits (req : Request) (reg : Bool) : Stage → Prop
  | slot (k : StreamId) (start : Nat) : Waits req reg (.waitSlot req reg k start)
  | drain : Waits req reg (.waitDrain req reg)
  | issue : Waits req reg (.waitIssue req reg)

/-- The entry stage waits only for what a regime has (R5). -/
def stageFits (regime : Regime) : Stage → Prop
  | .waitSlot _ _ _ _ => regime = .regulate
  | .waitDrain _ _ => regime = .draining
  | .waitIssue _ _ => regime = .pass
  | .empty | .waitRefusal _ _ _ _ => True

/-- The pool and the entry stage are in line with the regime, but that the pool may be empty in DRAINING, as it is inside an
event until its end is tested (R82). -/
def RegimeFit (s : State) : Prop := (s.cfg.regime = .pass → s.pool = []) ∧ stageFits s.cfg.regime s.stage

/-- In DRAINING the pool holds transactions (R82). -/
def DrainSound (s : State) : Prop := s.cfg.regime = .draining → s.pool ≠ []

theorem regimeSound_iff (s : State) : s.RegimeSound ↔ RegimeFit s ∧ DrainSound s := by
  unfold State.RegimeSound RegimeFit DrainSound stageFits
  cases s.stage <;> tauto

/-- The pairs of the WAITING transactions of the pool (R70). -/
def waitingPairs (pool : List Held) : List TagPair := (pool.filter Held.isWaiting).map Held.pair

/-- What becomes of an entry at the acceptance of its LOST offer (R107, R111). -/
def endLost : Entry → Entry
  | .expiring t .timeout => .quarantined t .timeout
  | .expiring _ .dreset => .free
  | .free => .free
  | .active t l => .active t l
  | .quarantined t c => .quarantined t c

/-- A request that the entry stage may refuse, with the tag map at the refusal (R7, R13, R14): one that waits, or one that is
taken now and is new or not (R9). -/
inductive Refusable (s : State) (req : Request) : Bool → List TagPair → Prop
  | waiting {reg : Bool} (waits : Waits req reg s.stage) : Refusable s req reg s.tagMap
  | fresh (empty : s.stage = .empty) (new : pairOf req ∉ s.tagMap) : Refusable s req true (s.tagMap ++ [pairOf req])
  | duplicate (empty : s.stage = .empty) : Refusable s req false s.tagMap

/-! ### The moves -/

/-- The elementary changes of the traffic. -/
inductive Move : State → State → Prop
  /-- A change of anything but the traffic. -/
  | quiet {s t : State} (stage : t.stage = s.stage) (tags : t.tagMap = s.tagMap) (list : t.localList = s.localList)
      (offers : t.offers = s.offers) (pool : t.pool = s.pool) (table : t.table = s.table) (resp : t.downResp = s.downResp)
      (regime : t.cfg.regime = s.cfg.regime) (balances : s.RequestsSound → s.BalancesSound → t.BalancesSound) : Move s t
  /-- The regime changes, and the request in the entry stage waits for what the new regime has (R13, R16, R17, R82). -/
  | regime (s : State) (after : Regime) (stage : Stage)
      (held : stage = s.stage ∨ ∃ req reg, Waits req reg s.stage ∧ Waits req reg stage)
      (fits : RegimeFit s → RegimeFit { s with stage := stage, cfg := { s.cfg with regime := after } }) :
      Move s { s with stage := stage, cfg := { s.cfg with regime := after } }
  /-- A well-formed request with a new pair is taken and waits (R6). -/
  | take (s : State) {req : Request} {stage : Stage} (empty : s.stage = .empty) (new : pairOf req ∉ s.tagMap)
      (wf : malformed req = false) (waits : Waits req true stage) (fits : stageFits s.cfg.regime stage) :
      Move s { s with tagMap := s.tagMap ++ [pairOf req], stage := stage }
  /-- A request is refused, and its refusal is offered (R14). -/
  | refuse (s : State) {req : Request} {reg : Bool} {tags : List TagPair} (k : Option StreamId) (r : Reason)
      (may : Refusable s req reg tags) : Move s { s with
        tagMap := tags
        stage := .waitRefusal req reg k r
        offers := s.offers ++ [{ offerer := .stage, entry := refusalEntry req reg r }] }
  /-- The waiting request enters the pool (R66). -/
  | place (s : State) {reg : Bool} (h : Held) (waits : Waits h.req reg s.stage) (waiting : h.isWaiting = true)
      (regulates : RegimeFit s → s.cfg.regime ≠ .pass) : Move s { s with stage := .empty, pool := s.pool ++ [h] }
  /-- The waiting request is issued to a FREE entry (R15). -/
  | send (s : State) {req : Request} {reg : Bool} (n : EntryId) (t : Flight) (waits : Waits req reg s.stage)
      (free : s.table[n] = .free) (pair : t.pair = pairOf req) :
      Move s { s with stage := .empty, table := putAt s.table n (.active t none) }
  /-- A WAITING transaction leaves the pool for a FREE entry (R81, R98). -/
  | issue (s : State) (n : EntryId) (t : Flight) (held : t.pair ∈ waitingPairs s.pool) (free : s.table[n] = .free) :
      Move s { s with
        pool := leaveQueue (fun _ => []) t.pair s.pool
        table := putAt s.table n (.active t none) }
  /-- A WAITING transaction expires, and its STALE refusal is offered (R73). -/
  | expireHeld (s : State) (p : TagPair) (held : p ∈ waitingPairs s.pool) : Move s { s with
      pool := leaveQueue (fun h => [{ h with state := .expired }]) p s.pool
      offers := s.offers ++ [{ offerer := .held p, entry := staleEntry p }] }
  /-- An ACTIVE entry times out, and its LOST response is offered (R106). -/
  | expireEntry (s : State) (n : EntryId) (t : Flight) (active : s.table[n] = .active t none) : Move s { s with
      table := putAt s.table n (.expiring t .timeout)
      offers := s.offers ++ [lostOffer n t] }
  /-- An offer of the entry stage is accepted (R22). -/
  | acceptStage (s : State) {before after : List Offer} {e : LocalEntry}
      (offers : s.offers = before ++ { offerer := .stage, entry := e } :: after) :
      Move s { s with localList := s.localList ++ [e], offers := before ++ after, stage := .empty }
  /-- A STALE offer is accepted: its transaction leaves the pool (R74). -/
  | acceptStale (s : State) {before after : List Offer} {p : TagPair} {e : LocalEntry}
      (offers : s.offers = before ++ { offerer := .held p, entry := e } :: after) :
      Move s { s with localList := s.localList ++ [e], offers := before ++ after, pool := dropExpired p s.pool }
  /-- A LOST offer is accepted: its entry ends (R107, R111). -/
  | acceptLost (s : State) {before after : List Offer} {n : EntryId} {e : LocalEntry}
      (offers : s.offers = before ++ { offerer := .inflight n, entry := e } :: after) :
      Move s { s with localList := s.localList ++ [e], offers := before ++ after, table := modAt s.table n endLost }
  /-- The response of an ACTIVE entry arrives (R101). -/
  | respond (s : State) {n : EntryId} {t : Flight} (l : Nat) (r : OfferedResponse) (active : s.table[n] = .active t none)
      (none_offered : s.downResp = none) (entry : r.entry = n) :
      Move s { s with table := putAt s.table n (.active t (some l)), downResp := some r }
  /-- The response of an EXPIRING entry arrives, and its LOST offer is withdrawn (R21, R101). -/
  | respondLate (s : State) {n : EntryId} {t : Flight} (l : Nat) (r : OfferedResponse)
      (expiring : s.table[n] = .expiring t .timeout) (none_offered : s.downResp = none) (entry : r.entry = n) :
      Move s { s with
        table := putAt s.table n (.active t (some l))
        downResp := some r
        offers := withdrawLost n s.offers }
  /-- A QUARANTINED entry becomes FREE (R104). -/
  | release (s : State) {n : EntryId} {t : Flight} {c : QuarantineCause} (quarantined : s.table[n] = .quarantined t c) :
      Move s { s with table := putAt s.table n .free }
  /-- The offered response is delivered (R102). -/
  | deliver (s : State) {r : OfferedResponse} {t : Flight} {l : Nat} (offered : s.downResp = some r)
      (held : s.table[r.entry] = .active t (some l)) : Move s { s with
        tagMap := s.tagMap.filter (· ≠ t.pair)
        table := putAt s.table r.entry .free
        downResp := none }
  /-- The head of the local response list is delivered (R19, R20). -/
  | answer (s : State) {e : LocalEntry} {rest : List LocalEntry} (head : s.localList = e :: rest) : Move s { s with
      localList := rest
      tagMap := if e.registered then s.tagMap.filter (· ≠ e.pair) else s.tagMap }
  /-- DRST# cuts the in-flight table off (R111). -/
  | cut (s : State) : Move s { s with
      table := mapAll s.table fun _ e => drstEntry e
      downResp := none
      offers := s.offers ++ drstOffers s }
  /-- The traffic is emptied, by RESET# or URST# (R25, R26). -/
  | clear {s t : State} (stage : t.stage = .empty) (tags : t.tagMap = []) (list : t.localList = []) (offers : t.offers = [])
      (pool : t.pool = []) (table : ∀ n : EntryId, t.table[n].resident = none) (resp : t.downResp = none)
      (balances : s.BalancesSound → t.BalancesSound) : Move s t

/-- A run of moves. -/
abbrev Moves : State → State → Prop := Relation.ReflTransGen Move

/-- What a predicate on the states keeps at each move it keeps at a run. -/
theorem Moves.keeps {P : State → Prop} (each : ∀ {s t}, Move s t → P s → P t) {s t : State} (moves : Moves s t)
    (holds : P s) : P t := by
  induction moves with
  | refl => exact holds
  | tail _ last ih => exact each last ih

end Sys2Proof.Machine.TrafficMoves

/-! The operations of the entry stage, the offers and the hold pool as runs of moves (R12 to R17, R21, R22, R66, R82), and what a
command keeps beside: the end of DRAINING and the local response list. -/

namespace Sys2Proof.Machine.TrafficMoves

section
variable {s t u : State}

/-! ### Changes beside the traffic -/

/-- The balances keep their bounds when neither they nor the classes and ceilings move (R48, R49). -/
theorem balancesSound_congr (balances : ∀ k : StreamId, t.accounts[k].balance = s.accounts[k].balance)
    (classes : ∀ k, t.isProtected k = s.isProtected k)
    (ceilings : ∀ k, (t.record k).ceiling = (s.record k).ceiling) (sound : s.BalancesSound) : t.BalancesSound := fun k => by
  rw [balances, classes, ceilings]
  exact sound k

/-- A change of anything but the traffic and its accounts. -/
theorem moves_of_frame (frame : t.stage = s.stage ∧ t.tagMap = s.tagMap ∧ t.localList = s.localList ∧
    t.offers = s.offers ∧ t.pool = s.pool ∧ t.table = s.table ∧ t.downResp = s.downResp ∧ t.cfg.regime = s.cfg.regime ∧
    t.accounts = s.accounts ∧ t.cfg.active = s.cfg.active) : Moves s t := by
  obtain ⟨stage, tags, list, offers, pool, table, resp, regime, accounts, active⟩ := frame
  refine .single (.quiet stage tags list offers pool table resp regime fun _ => balancesSound_congr ?_ ?_ ?_)
  · exact fun k => by rw [accounts]
  · exact fun k => by simp only [State.isProtected, State.record, active]
  · exact fun k => by simp only [State.record, active]

/-- A move, up to a change beside the traffic. -/
theorem Move.upTo (move : Move s t) (frame : u.stage = t.stage ∧ u.tagMap = t.tagMap ∧ u.localList = t.localList ∧
    u.offers = t.offers ∧ u.pool = t.pool ∧ u.table = t.table ∧ u.downResp = t.downResp ∧ u.cfg.regime = t.cfg.regime ∧
    u.accounts = t.accounts ∧ u.cfg.active = t.cfg.active) : Moves s u :=
  (Relation.ReflTransGen.single move).trans (moves_of_frame frame)

/-- The completion of a retirement moves no class and no ceiling (R191). -/
theorem checkDrained_moves (s : State) : Moves s (checkDrained s) := by
  rcases checkDrained_cases s with same | ⟨k, _, _, completed⟩
  · rw [same]
  · rw [completed]
    refine .single (.quiet rfl rfl rfl rfl rfl rfl rfl rfl fun _ => balancesSound_congr (s := s) (fun _ => rfl) ?_ ?_)
    · exact fun j => congrArg (· == StreamClass.prot)
        (StreamAccounts.retireInCopy_stream_keeps classOf (fun _ => rfl) k j s.cfg.active)
    · exact fun j => StreamAccounts.retireInCopy_stream_keeps StreamRecord.ceiling (fun _ => rfl) k j s.cfg.active

/-! ### The request in the entry stage -/

/-- The stage in which a request waits under a regime. -/
def waitIn (regime : Regime) (req : Request) (reg : Bool) : Stage :=
  match regime with
  | .pass => .waitIssue req reg
  | .regulate => .waitSlot req reg 0 0
  | .draining => .waitDrain req reg

theorem waitIn_waits (regime : Regime) (req : Request) (reg : Bool) : Waits req reg (waitIn regime req reg) := by
  cases regime
  · exact .issue
  · exact .slot 0 0
  · exact .drain

theorem waitIn_fits (regime : Regime) (req : Request) (reg : Bool) : stageFits regime (waitIn regime req reg) := by
  cases regime <;> rfl

variable {req : Request} {reg : Bool}

/-- The waiting request enters the pool (R66). -/
theorem place_moves (waits : Waits req reg s.stage) (regulates : RegimeFit s → s.cfg.regime ≠ .pass) (k : StreamId) :
    Moves s (place req k s) :=
  (Move.place s (HoldPool.placedHeld req k s) waits rfl regulates).upTo
    (by rw [HoldPool.place_changes]; exact ⟨rfl, rfl, rfl, rfl, rfl, rfl, rfl, rfl, rfl, rfl⟩)

/-- A repeated placement test (R12). -/
theorem retestSlot_moves (s : State) : Moves s (retestSlot s) := by
  rcases retestSlot_cases s with same | ⟨req, reg, k, start, stage, _, placed⟩
  · rw [same]
  · rw [placed]
    refine place_moves (reg := reg) (by rw [stage]; exact .slot k start) (fun fit => ?_) k
    have regulates : s.cfg.regime = .regulate := by simpa [RegimeFit, stage, stageFits] using fit.2
    simp [regulates]

/-- The request in the entry stage waits for something else. -/
theorem restage_moves {stage : Stage} (waits : Waits req reg s.stage) (waits' : Waits req reg stage)
    (fits : RegimeFit s → stageFits s.cfg.regime stage) : Moves s { s with stage := stage } :=
  .single (.regime s s.cfg.regime stage (.inr ⟨req, reg, waits, waits'⟩) fun fit => ⟨fit.1, fits fit⟩)

/-- The in-flight transaction of a request that is sent downstream (R99). -/
def flightOf (req : Request) (stream : Option StreamId) (s : State) : Flight :=
  { pair := pairOf req, stream := stream, kind := req.kind, beats := req.beats, issueTime := s.now }

/-- The PASS path of a waiting request (R15). -/
theorem passPath_moves (waits : Waits req reg s.stage) (passes : RegimeFit s → s.cfg.regime = .pass) :
    Moves s (passPath req reg s) := by
  rcases passPath_cases req reg s with ⟨n, _, free, sent⟩ | waiting
  · rw [sent]
    exact (Move.send s n (flightOf req none s) waits ((isFree_iff _).mp (firstFree_isFree free)) rfl).upTo
       ⟨rfl, rfl, rfl, rfl, rfl, rfl, rfl, rfl, rfl, rfl⟩
  · rw [waiting]
    exact restage_moves waits .issue passes

/-- The PASS path does not read the entry stage. -/
theorem passPath_restage (stage : Stage) (s : State) : passPath req reg { s with stage := stage } = passPath req reg s := rfl

/-- The checks of REGULATE do not read the entry stage. -/
theorem regulatedChecks_restage (stage : Stage) (s : State) :
    regulatedChecks req reg { s with stage := stage } = regulatedChecks req reg s := rfl

/-- The end of DRAINING (R82). -/
theorem checkPoolEmpty_moves (s : State) : Moves s (checkPoolEmpty s) := by
  by_cases ended : s.cfg.regime = .draining ∧ s.pool = []
  · obtain ⟨draining, empty⟩ := ended
    have drains (fit : RegimeFit s) : stageFits .draining s.stage := draining ▸ fit.2
    by_cases waiting : ∃ req reg, s.stage = .waitDrain req reg
    · obtain ⟨req, reg, stage⟩ := waiting
      rw [HoldPool.checkPoolEmpty_waiting draining empty stage, ← passPath_restage (.waitIssue req reg)]
      have waits : Waits req reg s.stage := by rw [stage]; exact .drain
      exact (Relation.ReflTransGen.single (.regime s .pass (.waitIssue req reg) (.inr ⟨req, reg, waits, .issue⟩)
        fun _ => ⟨fun _ => empty, rfl⟩)).trans (passPath_moves .issue fun _ => rfl)
    · rw [HoldPool.checkPoolEmpty_drained draining empty fun req reg stage => waiting ⟨req, reg, stage⟩]
      refine .single (.regime s .pass s.stage (.inl rfl) fun fit => ⟨fun _ => empty, ?_⟩)
      have fits := drains fit
      cases stage : s.stage with
      | waitDrain req reg => exact absurd ⟨req, reg, stage⟩ waiting
      | waitSlot => simp [stage, stageFits] at fits
      | waitIssue => simp [stage, stageFits] at fits
      | empty => trivial
      | waitRefusal => trivial
  · rw [HoldPool.checkPoolEmpty_idle (by tauto)]

/-- After the test of the drain's end the pool of DRAINING holds transactions (R82). -/
theorem checkPoolEmpty_drainSound (s : State) : DrainSound (checkPoolEmpty s) := by
  intro draining
  rcases checkPoolEmpty_cases s with same | ⟨_, _, passes | ⟨req, reg, _, passes⟩⟩
  · rw [same] at draining ⊢
    intro empty
    by_cases waiting : ∃ req reg, s.stage = .waitDrain req reg
    · obtain ⟨req, reg, stage⟩ := waiting
      rw [HoldPool.checkPoolEmpty_waiting draining empty stage] at same
      simpa [draining] using congrArg (·.cfg.regime) same
    · rw [HoldPool.checkPoolEmpty_drained draining empty fun req reg stage => waiting ⟨req, reg, stage⟩] at same
      simpa [draining] using congrArg (·.cfg.regime) same
  · simp [passes] at draining
  · simp [passes] at draining

/-! ### The acceptance of an offer (R22) -/

theorem putAt_same {α : Type} {n : Nat} (v : Vector α n) (i : Fin n) : putAt v i v[i] = v :=
  table_ext _ _ fun j => by
    rw [putAt_get]
    split
    · next same => rw [same]
    · rfl

/-- The end of an entry whose LOST offer is accepted (R107, R111). -/
theorem acceptLost_table (n : EntryId) (s : State) : (acceptLost n s).table = modAt s.table n endLost := by
  unfold acceptLost modAt
  split
  · next entry => simp only [checkDrained_frame, raiseGlobal_frame, countTo_frame, entry, endLost]
  · next entry => simp only [checkDrained_frame, raiseGlobal_frame, countTo_frame, entry, endLost]
  all_goals next entry => rw [entry, endLost, ← entry, putAt_same]

variable {before after : List Offer} {e : LocalEntry}

theorem acceptLost_moves {n : EntryId} (offers : s.offers = before ++ { offerer := .inflight n, entry := e } :: after) :
    Moves s (acceptLost n { s with localList := s.localList ++ [e], offers := before ++ after }) := by
  have accepts := Move.acceptLost s offers
  have table := acceptLost_table n { s with localList := s.localList ++ [e], offers := before ++ after }
  rcases acceptLost_cases n { s with localList := s.localList ++ [e], offers := before ++ after } with same | ⟨t, c, entry, ends⟩
  · refine accepts.upTo ?_
    rw [same] at table ⊢
    exact ⟨rfl, rfl, rfl, rfl, rfl, table, rfl, rfl, rfl, rfl⟩
  · rw [ends] at table ⊢
    refine (accepts.upTo ?_).trans (checkDrained_moves _)
    exact ⟨rfl, rfl, rfl, rfl, rfl, by simpa only [checkDrained_frame] using table, rfl, rfl, rfl, rfl⟩

theorem acceptStale_moves {p : TagPair} (offers : s.offers = before ++ { offerer := .held p, entry := e } :: after) :
    Moves s (acceptStale p { s with localList := s.localList ++ [e], offers := before ++ after }) := by
  have drops : Moves s (setPool (dropExpired p s.pool)
      { s with localList := s.localList ++ [e], offers := before ++ after }) :=
    (Move.acceptStale s offers).upTo ⟨rfl, rfl, rfl, rfl, rfl, rfl, rfl, rfl, rfl, rfl⟩
  unfold acceptStale
  exact ((drops.trans (retestSlot_moves _)).trans (checkPoolEmpty_moves _)).trans (checkDrained_moves _)

/-- A waiting offer is accepted, from any place of the order. -/
theorem acceptOffer_moves {o : Offer} (offers : s.offers = before ++ o :: after) :
    Moves s (acceptOffer o { s with offers := before ++ after }) := by
  obtain ⟨_ | p | n, e⟩ := o
  · exact .single (.acceptStage s offers)
  · exact acceptStale_moves offers
  · exact acceptLost_moves offers

/-- The accepted entry joins the local response list (R22). -/
@[simp] theorem acceptOffer_localList (o : Offer) (s : State) : (acceptOffer o s).localList = s.localList ++ [o.entry] := by
  obtain ⟨_ | p | n, e⟩ := o
  · rfl
  · simp [acceptOffer_held]
  · simp [acceptOffer_inflight]

theorem acceptOffer_drainSound (o : Offer) (sound : DrainSound s) : DrainSound (acceptOffer o s) := by
  obtain ⟨_ | p | n, e⟩ := o
  · exact sound
  · have ended := checkPoolEmpty_drainSound (retestSlot (setPool (dropExpired p s.pool) { s with localList := s.localList ++ [e] }))
    simpa only [DrainSound, acceptOffer_held, acceptStale, checkDrained_frame] using ended
  · simpa only [DrainSound, acceptOffer_inflight, acceptLost_frame] using sound

end

/-! ### What a command keeps -/

/-- An event is a run of moves at whose end the pool of DRAINING holds transactions and the local response list is full while
offers wait, if so before it (R20, R21, R82). -/
structure Kept (s t : State) : Prop where
  moves : Moves s t
  drain : DrainSound s → DrainSound t
  list : s.ListSound → t.ListSound

section
variable {s t u : State}

theorem Kept.refl (s : State) : Kept s s := ⟨.refl, id, id⟩

theorem Kept.trans (first : Kept s t) (second : Kept t u) : Kept s u :=
  ⟨first.moves.trans second.moves, second.drain ∘ first.drain, second.list ∘ first.list⟩

/-- A run of moves that leaves the list and the offers alone and ends DRAINING or keeps the pool filled. -/
theorem Kept.of_moves (moves : Moves s t) (drain : DrainSound s → DrainSound t) (list : t.localList = s.localList)
    (offers : t.offers = s.offers) : Kept s t :=
  ⟨moves, drain, fun sound => by rw [State.ListSound, list, offers]; exact sound⟩

/-- A change beside the traffic. -/
theorem Kept.of_frame (frame : t.stage = s.stage ∧ t.tagMap = s.tagMap ∧ t.localList = s.localList ∧
    t.offers = s.offers ∧ t.pool = s.pool ∧ t.table = s.table ∧ t.downResp = s.downResp ∧ t.cfg.regime = s.cfg.regime ∧
    t.accounts = s.accounts ∧ t.cfg.active = s.cfg.active) : Kept s t := by
  refine .of_moves (moves_of_frame frame) ?_ frame.2.2.1 frame.2.2.2.1
  obtain ⟨_, _, _, _, pool, _, _, regime, _⟩ := frame
  rw [DrainSound, DrainSound, regime, pool]
  exact id

/-- A change beside the traffic that moves balances. -/
theorem Kept.of_balances (frame : t.stage = s.stage ∧ t.tagMap = s.tagMap ∧ t.localList = s.localList ∧
    t.offers = s.offers ∧ t.pool = s.pool ∧ t.table = s.table ∧ t.downResp = s.downResp ∧ t.cfg.regime = s.cfg.regime)
    (balances : s.RequestsSound → s.BalancesSound → t.BalancesSound) : Kept s t := by
  obtain ⟨stage, tags, list, offers, pool, table, resp, regime⟩ := frame
  refine .of_moves (.single (.quiet stage tags list offers pool table resp regime balances)) ?_ list offers
  rw [DrainSound, DrainSound, regime, pool]
  exact id

/-- A change beside the traffic before an operation. -/
theorem Kept.after (second : Kept t u) (frame : t.stage = s.stage ∧ t.tagMap = s.tagMap ∧ t.localList = s.localList ∧
    t.offers = s.offers ∧ t.pool = s.pool ∧ t.table = s.table ∧ t.downResp = s.downResp ∧ t.cfg.regime = s.cfg.regime ∧
    t.accounts = s.accounts ∧ t.cfg.active = s.cfg.active) : Kept s u := (Kept.of_frame frame).trans second

/-! ### Offers -/

theorem makeOffer_drainSound (o : Offer) (sound : DrainSound s) : DrainSound (makeOffer o s) := by
  unfold makeOffer
  split
  · exact acceptOffer_drainSound o sound
  · exact sound

theorem makeOffer_listSound (o : Offer) (sound : s.ListSound) : (makeOffer o s).ListSound := by
  obtain ⟨fits, full⟩ := sound
  unfold makeOffer
  split
  · next place =>
    simp only [State.ListSound, acceptOffer_localList, acceptOffer_frame, List.length_append, List.length_singleton]
    exact ⟨place, fun waiting => absurd (full waiting) (Nat.ne_of_lt place)⟩
  · next noPlace => exact ⟨fits, fun _ => Nat.le_antisymm fits (Nat.le_of_not_lt noPlace)⟩

/-- An offer that is accepted at once or joins the order (R21), after a run of moves up to the offer itself. -/
theorem makeOffer_kept (o : Offer) (moves : Moves s { t with offers := t.offers ++ [o] })
    (drain : DrainSound s → DrainSound t) (list : s.ListSound → t.ListSound) : Kept s (makeOffer o t) := by
  refine ⟨?_, makeOffer_drainSound o ∘ drain, makeOffer_listSound o ∘ list⟩
  unfold makeOffer
  split
  · have accepts := acceptOffer_moves (s := { t with offers := t.offers ++ [o] }) (before := t.offers) (after := []) rfl
    simp only [List.append_nil] at accepts
    exact moves.trans accepts
  · exact moves

/-- The oldest waiting offer is accepted when a place is free (R21). -/
theorem acceptOldest_kept (s : State) : Kept s (acceptOldest s) := by
  unfold acceptOldest
  split
  · exact .refl s
  · next o rest offers =>
    split
    · next place =>
      refine ⟨acceptOffer_moves (before := []) offers,
        fun sound => acceptOffer_drainSound (s := { s with offers := rest }) o sound, fun ⟨_, full⟩ => ?_⟩
      exact absurd (full (by rw [offers]; simp)) (Nat.ne_of_lt place)
    · exact .refl s

theorem checkDrained_kept (s : State) : Kept s (checkDrained s) := by
  refine .of_moves (checkDrained_moves s) ?_ (by simp) (by simp)
  simp only [DrainSound, checkDrained_frame]
  exact id

/-- The end of DRAINING is tested after a run of moves (R82). -/
theorem checkPoolEmpty_kept (moves : Moves s t) (list : t.localList = s.localList) (offers : t.offers = s.offers) :
    Kept s (checkPoolEmpty t) :=
  .of_moves (moves.trans (checkPoolEmpty_moves t)) (fun _ => checkPoolEmpty_drainSound t) (by simpa using list)
    (by simpa using offers)

/-! ### The entry stage -/

theorem refuse_kept {req : Request} {reg : Bool} {tags : List TagPair} (may : Refusable s req reg tags) (r : Reason)
    (k : Option StreamId) : Kept s (refuse req reg r k { s with tagMap := tags }) := by
  refine makeOffer_kept _ ((Move.refuse s k r may).upTo ?_) ?_ ?_
  · cases r <;> cases k <;> exact ⟨rfl, rfl, rfl, rfl, rfl, rfl, rfl, rfl, rfl, rfl⟩
  · simp [DrainSound]
  · simp [State.ListSound]

variable {req : Request} {reg : Bool}

theorem refuseWaiting_kept (waits : Waits req reg s.stage) (r : Reason) (k : Option StreamId) :
    Kept s (refuse req reg r k s) := refuse_kept (.waiting waits) r k

theorem place_kept (waits : Waits req reg s.stage) (regulates : RegimeFit s → s.cfg.regime ≠ .pass) (k : StreamId) :
    Kept s (place req k s) :=
  .of_moves (place_moves waits regulates k) (fun _ _ => by rw [HoldPool.place_changes]; simp) (by simp) (by simp)

theorem retestSlot_kept (s : State) : Kept s (retestSlot s) := by
  refine .of_moves (retestSlot_moves s) (fun sound => ?_) (by simp) (by simp)
  rcases retestSlot_cases s with same | ⟨req, reg, k, start, _, _, placed⟩
  · rwa [same]
  · intro _
    rw [placed, HoldPool.place_changes]
    simp

theorem passPath_kept (waits : Waits req reg s.stage) (passes : RegimeFit s → s.cfg.regime = .pass) :
    Kept s (passPath req reg s) :=
  .of_moves (passPath_moves waits passes) (by simp [DrainSound]) (by simp) (by simp)

theorem restage_kept {stage : Stage} (waits : Waits req reg s.stage) (waits' : Waits req reg stage)
    (fits : RegimeFit s → stageFits s.cfg.regime stage) : Kept s { s with stage := stage } :=
  .of_moves (restage_moves waits waits' fits) id rfl rfl

theorem regulatedChecks_kept (waits : Waits req reg s.stage) (regulates : RegimeFit s → s.cfg.regime = .regulate) :
    Kept s (regulatedChecks req reg s) := by
  have placing (fit : RegimeFit s) : s.cfg.regime ≠ .pass := by simp [regulates fit]
  rcases regulatedChecks_cases req reg s with h | h | ⟨_, h⟩ | h | ⟨_, h⟩ <;> rw [h]
  · exact refuseWaiting_kept waits _ _
  · exact refuseWaiting_kept waits _ _
  · exact place_kept waits placing _
  · exact refuseWaiting_kept waits _ _
  · exact (restage_kept waits (.slot (classify s.cfg.active req).1 s.now) regulates).trans (.of_frame (by simp))

/-- A well-formed request with a new pair, taken to wait under the regime in force (R6, R18). -/
theorem take_kept (empty : s.stage = .empty) (new : pairOf req ∉ s.tagMap) (wf : malformed req = false) :
    Kept s { s with tagMap := s.tagMap ++ [pairOf req], stage := waitIn s.cfg.regime req true } :=
  .of_moves (.single (.take s empty new wf (waitIn_waits _ _ _) (waitIn_fits _ _ _))) id rfl rfl

/-- REQUEST_TAKEN (R6, R7). -/
theorem takeRequest_kept (req : Request) (s : State) : Kept s (takeRequest req s) := by
  unfold takeRequest
  split
  · exact .refl s
  · next free =>
    have empty : s.stage = .empty := by tauto
    split
    · have spans := refuse_kept (req := req) (.duplicate empty) .span none
      have repeats := refuse_kept (req := req) (.duplicate empty) .duplicate none
      unfold checkRequest
      split
      · exact spans
      · exact repeats
    · next new =>
      unfold checkRequest
      split
      · exact refuse_kept (.fresh empty new) .span none
      · next formed =>
        have taken := take_kept empty new (by simpa using formed)
        simp only [Bool.not_true, Bool.false_eq_true, if_false]
        split
        · next regime =>
          rw [regime] at taken
          exact taken.trans (regulatedChecks_kept (.slot 0 0) fun _ => regime)
        · next regime =>
          rw [regime] at taken
          exact taken.trans (passPath_kept .issue fun _ => regime)
        · next regime =>
          rw [regime] at taken
          exact taken

/-- PASS_ISSUE (R15). -/
theorem passIssue_kept (s : State) : Kept s (passIssue s) := by
  unfold passIssue
  split
  · next req reg stage =>
    split
    · next passes => exact passPath_kept (by rw [stage]; exact .issue) fun _ => passes
    · exact .refl s
  all_goals exact .refl s

/-- STALL_TIMEOUT (R12). -/
theorem expireStall_kept (s : State) : Kept s (expireStall s) := by
  unfold expireStall
  split
  · next req reg k start stage =>
    split
    · exact refuseWaiting_kept (by rw [stage]; exact .slot k start) _ _
    · exact .refl s
  all_goals exact .refl s

end
end Sys2Proof.Machine.TrafficMoves

/-! The expiries of held transactions and of in-flight entries, the arrival of a response and its delivery, as runs of moves (R19,
R72, R73, R101 to R106). -/

namespace Sys2Proof.Machine.TrafficMoves

section
variable {s t u : State}

/-! ### The expiries of held transactions (R72, R73) -/

/-- A WAITING transaction of the pair leaves the queue, and no other one does (R73, R81). -/
theorem waitingPairs_leaveQueue {stay : Held → List Held} (idle : ∀ h, ∀ g ∈ stay h, g.isWaiting = false) (p : TagPair)
    (pool : List Held) : waitingPairs (leaveQueue stay p pool) = (waitingPairs pool).erase p := by
  induction pool with
  | nil => rfl
  | cons h rest ih =>
    unfold leaveQueue
    split
    · next hit =>
      obtain ⟨waiting, pair⟩ : h.isWaiting = true ∧ h.pair = p := by simpa using hit
      have gone : (stay h).filter Held.isWaiting = [] := by simpa using idle h
      have released : ((rest.map (releaseGuard h)).filter Held.isWaiting).map Held.pair = waitingPairs rest := by
        simp [waitingPairs, List.filter_map, Function.comp_def]
      simp only [waitingPairs, List.filter_append, gone, List.nil_append, List.filter_cons, waiting, if_true,
        List.map_cons, pair, List.erase_cons_head] at released ⊢
      exact released
    · next miss =>
      unfold waitingPairs at ih ⊢
      cases waiting : h.isWaiting with
      | false => simpa [List.filter_cons, waiting] using ih
      | true =>
        have other : (h.pair == p) = false := by simpa [waiting] using miss
        simp only [List.filter_cons, waiting, if_true, List.map_cons, ih]
        exact (List.erase_cons_tail (by simp [other])).symm

theorem waitingPairs_append (l m : List Held) : waitingPairs (l ++ m) = waitingPairs l ++ waitingPairs m := by
  simp [waitingPairs]

/-- The transactions that leave at the acceptance of a STALE offer are EXPIRED (R74). -/
theorem waitingPairs_dropExpired (p : TagPair) (pool : List Held) : waitingPairs (dropExpired p pool) = waitingPairs pool := by
  unfold waitingPairs dropExpired
  rw [List.filter_filter]
  congr 1
  exact List.filter_congr fun h _ => by cases h.isWaiting <;> rfl

/-- A STALE offer, accepted or not, leaves every WAITING transaction in the pool (R74). -/
theorem makeOffer_waitingPairs (p : TagPair) (e : LocalEntry) (s : State) :
    (waitingPairs s.pool).Sublist (waitingPairs (makeOffer { offerer := .held p, entry := e } s).pool) := by
  unfold makeOffer
  split
  · simp only [acceptOffer_held, acceptStale, checkDrained_frame, checkPoolEmpty_frame]
    have drop := waitingPairs_dropExpired p s.pool
    rcases retestSlot_cases (setPool (dropExpired p s.pool) { s with localList := s.localList ++ [e] }) with
      same | ⟨req, reg, k, start, _, _, placed⟩
    · rw [same]
      exact drop ▸ .refl _
    · rw [placed, HoldPool.place_changes, waitingPairs_append]
      exact drop ▸ List.sublist_append_left _ _
  · exact .refl _

theorem leaveQueue_ne_nil {stay : Held → List Held} (stays : ∀ h, stay h ≠ []) {p : TagPair} {pool : List Held}
    (filled : pool ≠ []) : leaveQueue stay p pool ≠ [] := by
  cases pool with
  | nil => exact absurd rfl filled
  | cons h rest =>
    unfold leaveQueue
    split <;> simp [stays]

/-- The transaction that an expiry leaves in the pool (R73). -/
theorem expireHeld_kept {h : Held} (held : h.pair ∈ waitingPairs s.pool) : Kept s (expireHeld s h) := by
  refine makeOffer_kept _ ((Move.expireHeld s h.pair held).upTo (by simp [staleEntry])) ?_ ?_
  · intro sound draining
    simp only [raiseRefusal_frame, countRefusal_frame] at draining ⊢
    exact leaveQueue_ne_nil (by simp) (sound draining)
  · simp only [State.ListSound, raiseRefusal_frame, countRefusal_frame]
    exact id

theorem expireHeld_waitingPairs (s : State) (h : Held) :
    ((waitingPairs s.pool).erase h.pair).Sublist (waitingPairs (expireHeld s h).pool) := by
  unfold expireHeld
  refine List.Sublist.trans ?_ (makeOffer_waitingPairs _ _ _)
  simp only [raiseRefusal_frame, countRefusal_frame]
  rw [waitingPairs_leaveQueue (by simp [Held.isWaiting])]

/-- Transactions that wait in the pool expire one after the other (R73). -/
theorem expireHelds_kept : ∀ (l : List Held) (s : State), (l.map Held.pair).Subperm (waitingPairs s.pool) →
    Kept s (l.foldl expireHeld s)
  | [], s, _ => .refl s
  | h :: l, s, held => by
    have rest : (l.map Held.pair).Subperm ((waitingPairs s.pool).erase h.pair) := by
      simpa using held.erase h.pair
    exact (expireHeld_kept (held.subset (by simp))).trans
      (expireHelds_kept l _ (rest.trans (expireHeld_waitingPairs s h).subperm))

/-- The transactions that an event selects among the WAITING ones of the pool expire. -/
theorem expireSelected_kept (select : Held → Bool) (waiting : ∀ h, select h = true → h.isWaiting = true) (s : State) :
    Kept s ((s.pool.filter select).foldl expireHeld s) := by
  refine expireHelds_kept _ s (List.Sublist.subperm ?_)
  refine List.Sublist.map _ ?_
  have narrow : s.pool.filter select = (s.pool.filter Held.isWaiting).filter select := by
    rw [List.filter_filter]
    exact List.filter_congr fun h _ => by cases selected : select h <;> simp [waiting h, selected]
  rw [narrow]
  exact List.filter_sublist

/-- HOLD_TIMEOUT (R73). -/
theorem expireHolds_kept (who : List TagPair) (s : State) : Kept s (expireHolds who s) :=
  expireSelected_kept _ (fun h due => by simp [State.holdDue] at due; exact due.2.1.1) s

/-! ### The expiries of in-flight entries (R105, R106) -/

theorem expireEntry_kept {n : EntryId} {f : Flight} (active : s.table[n] = .active f none) : Kept s (expireEntry s n) := by
  rw [InFlightTable.expireEntry_active active]
  exact makeOffer_kept _ ((Move.expireEntry s n f active).upTo ⟨rfl, rfl, rfl, rfl, rfl, rfl, rfl, rfl, rfl, rfl⟩) id id

/-- The expiry of an entry moves no other entry. -/
theorem expireEntry_other {m n : EntryId} (other : m ≠ n) (s : State) : (expireEntry s n).table[m] = s.table[m] := by
  unfold expireEntry
  split
  · unfold makeOffer
    split
    · simp only [lostOffer, acceptOffer_inflight, acceptLost_table, modAt_get, putAt_get, if_neg other]
    · simp only [putAt_get, if_neg other]
  all_goals rfl

/-- ACTIVE entries without a response expire one after the other (R106). -/
theorem expireEntries_kept : ∀ (l : List EntryId) (s : State), l.Nodup → (∀ n ∈ l, ∃ f, s.table[n] = .active f none) →
    Kept s (l.foldl expireEntry s)
  | [], s, _, _ => .refl s
  | n :: l, s, once, active => by
    obtain ⟨absent, once⟩ := List.nodup_cons.mp once
    obtain ⟨f, entry⟩ := active n List.mem_cons_self
    refine (expireEntry_kept entry).trans (expireEntries_kept l _ once fun m member => ?_)
    have other : m ≠ n := fun same => absent (same ▸ member)
    rw [expireEntry_other other]
    exact active m (List.mem_cons_of_mem n member)

/-- The entries that an event selects among those whose timers have run expire. -/
theorem expireDue_kept (select : EntryId → Bool) (due : ∀ n, select n = true → s.responseDue 0 n = true) :
    Kept s ((allEntries.filter select).foldl expireEntry s) := by
  refine expireEntries_kept _ s ((List.nodup_finRange 48).filter _) fun n member => ?_
  obtain ⟨f, entry, _⟩ := (InFlightTable.responseDue_iff s n).mp (due n (List.of_mem_filter member))
  exact ⟨f, entry⟩

/-- RESPONSE_TIMEOUT (R106). -/
theorem expireResponses_kept (who : List EntryId) (s : State) : Kept s (expireResponses who s) :=
  expireDue_kept _ fun n due => by simp at due; exact due.2

/-! ### Responses (R19, R101, R102, R104) -/

theorem arriveAt_kept (n : EntryId) (r : MemResponse) (empty : s.downResp = none) : Kept s (arriveAt n r s) := by
  unfold arriveAt
  split
  · next f entry => exact .of_moves (.single (.respond s _ _ entry empty rfl)) id rfl rfl
  · exact .refl s
  · next f entry =>
    refine ⟨.single (.respondLate s _ _ entry empty rfl), id, fun ⟨fits, full⟩ => ⟨fits, fun waiting => full fun none => ?_⟩⟩
    exact waiting (by simp [holdResponse, withdrawLost, none])
  · exact .of_frame (by simp)
  · next f entry =>
    exact .of_moves ((Move.release s entry).upTo ⟨rfl, rfl, rfl, rfl, rfl, rfl, rfl, rfl, rfl, rfl⟩) id rfl rfl
  · next f entry =>
    exact .of_moves ((Move.release s entry).upTo ⟨rfl, rfl, rfl, rfl, rfl, rfl, rfl, rfl, rfl, rfl⟩) id rfl rfl
  · exact .of_frame (by simp)

/-- RESPONSE_ARRIVAL (R101). -/
theorem arrive_kept (r : MemResponse) (s : State) : Kept s (arrive r s) := by
  unfold arrive
  split
  · exact .refl s
  · next opened =>
    have empty : s.downResp = none := by
      by_contra offered
      exact opened (.inr (by simpa [Option.isSome_iff_ne_none] using offered))
    split
    · exact arriveAt_kept _ r empty
    · exact .of_frame (by simp)

theorem deliverDownstream_kept {r : OfferedResponse} (offered : s.downResp = some r) : Kept s (deliverDownstream r s) := by
  unfold deliverDownstream
  split
  · next f l entry =>
    have delivers : Kept s (countTo f.stream (Acc.completion l r.outcome) (dropPair f.pair (sendUp (downstreamResponse f r)
        { s with table := putAt s.table r.entry .free, downResp := none, preferred := .local }))) :=
      .of_moves ((Move.deliver s offered entry).upTo ⟨rfl, rfl, rfl, rfl, rfl, rfl, rfl, rfl, rfl, rfl⟩) id rfl rfl
    exact delivers.trans (checkDrained_kept _)
  all_goals exact .refl s

/-- The freed place takes the oldest waiting offer (R21). -/
theorem deliverLocal_kept {e : LocalEntry} {rest : List LocalEntry} (head : s.localList = e :: rest) :
    Kept s (deliverLocal e rest s) := by
  unfold deliverLocal
  dsimp only
  generalize delivered : (if e.registered = true then
    dropPair e.pair (sendUp (localResponse e) { s with localList := rest, preferred := .downstream })
    else sendUp (localResponse e) { s with localList := rest, preferred := .downstream }) = d
  have answers : Moves s d := by
    refine (Move.answer s head).upTo ?_
    subst delivered
    split <;> exact ⟨rfl, rfl, rfl, rfl, rfl, rfl, rfl, rfl, rfl, rfl⟩
  have frame : d.localList = rest ∧ d.offers = s.offers ∧ d.cfg = s.cfg ∧ d.pool = s.pool := by
    subst delivered
    split <;> exact ⟨rfl, rfl, rfl, rfl⟩
  obtain ⟨list, offers, cfg, pool⟩ := frame
  refine ⟨answers.trans (acceptOldest_kept d).moves, fun sound => (acceptOldest_kept d).drain ?_, fun ⟨fits, full⟩ => ?_⟩
  · rwa [DrainSound, cfg, pool]
  · rw [head, List.length_cons] at fits full
    unfold acceptOldest
    rw [offers]
    split
    · next none =>
      rw [State.ListSound, list, offers]
      exact ⟨Nat.le_of_succ_le fits, fun waiting => absurd none waiting⟩
    · next o others waiting =>
      have places := full (by simp [waiting])
      rw [if_pos (by rw [list]; omega), State.ListSound]
      simp only [acceptOffer_localList, acceptOffer_frame, list, List.length_append, List.length_singleton]
      exact ⟨fits, fun _ => places⟩

/-- RESPONSE_DELIVERED (R23). -/
theorem deliverResponse_kept (s : State) : Kept s (deliverResponse s) := by
  unfold deliverResponse
  split
  · exact .refl s
  split
  · exact .refl s
  · next offered _ => exact deliverDownstream_kept offered
  · next list => exact deliverLocal_kept list
  · next offered _ _ => exact deliverDownstream_kept offered
  · next list _ => exact deliverLocal_kept list

end
end Sys2Proof.Machine.TrafficMoves

/-! The issue, the refill, the publication and the commit event as runs of moves (R13, R16, R17, R52, R54, R98, R126, R187), with
what they make of the balances (R48, R49). -/

namespace Sys2Proof.Machine.TrafficMoves

section
variable {s t u : State}

/-! ### The issue (R54, R55, R98) -/

/-- A well-formed request has at most 256 bytes (R1, R8). -/
theorem bytesOf_le {r : Request} (wf : malformed r = false) : bytesOf r ≤ 256 := by
  simp only [malformed, Bool.or_eq_false_iff, Bool.not_eq_false', Bool.and_eq_true, decide_eq_true_eq] at wf
  simp only [bytesOf, byteCount, Config.beatBytes]
  omega

/-- The charge of a budget-eligible issue leaves the balance at -256 or above (R49, R54, R55). -/
theorem charge_balancesSound {k : StreamId} {r : Request} (wf : malformed r = false) (ok : s.budgetOk k = true)
    (sound : s.BalancesSound) : (charge k (bytesOf r) s).BalancesSound := by
  rw [StreamAccounts.charge_eq]
  split
  · next charged =>
    obtain ⟨regulates, unprotected⟩ := charged
    have funded : 0 ≤ s.accounts[k].balance := by
      simpa [unprotected] using StreamAccounts.budgetOk_regulate regulates ok
    have size := bytesOf_le wf
    intro j
    have before := sound j
    simp only [putAt_get]
    by_cases own : j = k
    · subst own
      change if s.isProtected j = true then _ else _
      rw [if_neg (by simp [unprotected])] at before ⊢
      rw [if_pos rfl]
      change -256 ≤ s.accounts[j].balance - (bytesOf r : Int) ∧
        s.accounts[j].balance - (bytesOf r : Int) ≤ (s.record j).ceiling.toNat
      omega
    · simp only [if_neg own]
      exact before
  · exact sound

/-- ISSUE (R98). -/
theorem issueGrant_kept (s : State) : Kept s (issueGrant s) := by
  unfold issueGrant
  split
  · next n k arb _ first granted =>
    split
    · next h head =>
      obtain ⟨member, stream, waiting⟩ := queueHead_mem head
      have ok : s.budgetOk h.stream = true := stream ▸ StreamAccounts.budgetOk_of_grant granted
      have charges : Moves s (charge h.stream (bytesOf h.req) s) :=
        .single (.quiet (by simp) (by simp) (by simp) (by simp) (by simp) (by simp) (by simp) (by simp)
          fun ⟨_, wf⟩ => charge_balancesSound (wf h member) ok)
      have held : h.pair ∈ waitingPairs (charge h.stream (bytesOf h.req) s).pool := by
        simpa [waitingPairs] using ⟨h, ⟨member, waiting⟩, rfl⟩
      have free : (charge h.stream (bytesOf h.req) s).table[n] = .free := by
        simpa using (isFree_iff _).mp (firstFree_isFree first)
      have issues : Moves s (sendDown n h.req (some h.stream) (charge h.stream (bytesOf h.req)
          (setPool (leaveQueue (fun _ => []) h.pair s.pool) { s with arb := arb }))) := by
        refine charges.trans ((Move.issue _ n (flightOf h.req (some h.stream) s) held free).upTo ?_)
        simp only [StreamAccounts.charge_eq]
        exact ⟨rfl, rfl, rfl, rfl, rfl, rfl, rfl, rfl, rfl, rfl⟩
      exact checkPoolEmpty_kept (issues.trans (retestSlot_moves _)) (by simp) (by simp)
    · exact .refl s
  · exact .refl s

/-! ### The balances of the other events (R48, R49, R52, R57) -/

/-- A refill stops at the ceiling (R52). -/
theorem refillTick_kept (s : State) : Kept s (refillTick s) := by
  unfold refillTick
  split
  · refine .of_balances ⟨rfl, rfl, rfl, rfl, rfl, rfl, rfl, rfl⟩ fun _ sound k => ?_
    have before := sound k
    rw [mapAll_get]
    change if s.isProtected k = true then _ else _
    split
    · next prot =>
      rw [if_pos prot] at before
      simpa [State.refilled, prot] using before
    · next unprot =>
      rw [if_neg unprot] at before
      change _ ∧ _ ≤ ((s.record k).ceiling.toNat : Int)
      split
      · simp only [refill]
        omega
      · exact before
  · exact .refl s

/-- The starved flags move no balance (R56). -/
theorem finish_kept (before s : State) : Kept s (finish before s) := by
  refine .of_balances (by simp) fun _ => balancesSound_congr (fun k => ?_) (fun k => ?_) fun k => ?_
  · rw [StreamAccounts.finish_account]
    split <;> rfl
  · simp [State.isProtected, State.record]
  · simp [State.record]

/-- PUBLICATION (R126). -/
theorem publish_kept (s : State) : Kept s (publish s) := by
  by_cases due : s.mon.epochEnd ≤ s.now
  · rw [MeasurementEpochs.publish_due due]
    refine .of_balances ⟨rfl, rfl, rfl, rfl, rfl, rfl, rfl, rfl⟩ fun _ => balancesSound_congr (s := s) (fun k => ?_)
      (fun _ => rfl) fun _ => rfl
    exact congrArg (·.balance) (MeasurementEpochs.clearStarved_get s.accounts k)
  · rw [MeasurementEpochs.publish_early (Nat.lt_of_not_le due)]
    exact .refl s

/-- ADJUSTMENT (R140). -/
theorem adjust_kept (hot : Bool) (s : State) : Kept s (adjust hot s) := by
  unfold adjust actAdjustment
  dsimp only
  repeat' split
  all_goals exact .of_frame (by simp)

/-! ### The commit event (R13, R16, R17, R178, R187) -/

/-- The settings of a commit applied, and its result received: all but the entry stage and the expiries (R187). -/
def committed (s : State) : State :=
  finishCommand .done .ok .none (commitEpoch (applySettings s.cfg.staged
    (regimeAfter s.cfg.regime (requestsRegulate s.cfg.staged.global) s.pool.isEmpty) s))

theorem applyCommit_eq (s : State) : applyCommit s =
    commitTimeouts s.cfg.active (commitHolds s.cfg.active (reexamine s.cfg.regime (committed s))) := rfl

theorem committed_frame (s : State) : (committed s).stage = s.stage ∧ (committed s).tagMap = s.tagMap ∧
    (committed s).localList = s.localList ∧ (committed s).offers = s.offers ∧ (committed s).pool = s.pool ∧
    (committed s).table = s.table ∧ (committed s).downResp = s.downResp ∧ (committed s).cfg.active = s.cfg.staged ∧
    (committed s).cfg.regime = regimeAfter s.cfg.regime (requestsRegulate s.cfg.staged.global) s.pool.isEmpty := by
  unfold committed commitEpoch
  split <;> simp [applySettings]

theorem committed_account (s : State) (k : StreamId) : (committed s).accounts[k] =
    commitAccount s.cfg.regime (regimeAfter s.cfg.regime (requestsRegulate s.cfg.staged.global) s.pool.isEmpty)
      (s.cfg.streamState[k] == .off) (s.record k) s.cfg.staged.streams[k] s.accounts[k] := by
  have accounts : (committed s).accounts = (applySettings s.cfg.staged
      (regimeAfter s.cfg.regime (requestsRegulate s.cfg.staged.global) s.pool.isEmpty) s).accounts := by
    simp [committed, StreamAccounts.commitEpoch_frame]
  rw [accounts]
  exact mapAll_get _ _ k

/-- A commit holds every balance to its new ceiling (R48, R57, R59, R60). -/
theorem committed_balancesSound (sound : s.BalancesSound) : (committed s).BalancesSound := fun k => by
  obtain ⟨_, _, _, _, _, _, _, active, _⟩ := committed_frame s
  have before := sound k
  rw [committed_account]
  simp only [State.isProtected, State.record, active, beq_iff_eq] at before ⊢
  split
  · next prot => rw [StreamAccounts.commitAccount_protected prot]
  · next unprot =>
    rw [StreamAccounts.commitAccount_unprotected unprot]
    dsimp only
    split
    · omega
    · next kept =>
      rw [if_neg fun prot => kept (.inl prot)] at before
      omega

/-- A regime that a commit leaves in PASS comes with an empty pool, and one in DRAINING with a filled one (R82, R178). -/
theorem regimeAfter_pool (request : Bool) :
    (RegimeFit s → regimeAfter s.cfg.regime request s.pool.isEmpty = .pass → s.pool = []) ∧
    (DrainSound s → regimeAfter s.cfg.regime request s.pool.isEmpty = .draining → s.pool ≠ []) := by
  refine ⟨fun fit after => ?_, fun drain after => ?_⟩
  · cases request <;> cases regime : s.cfg.regime <;> simp_all [regimeAfter, RegimeFit]
  · cases request <;> cases regime : s.cfg.regime <;> simp_all [regimeAfter, DrainSound]

theorem committed_drainSound (drain : DrainSound s) : DrainSound (committed s) := by
  obtain ⟨_, _, _, _, pool, _, _, _, regime⟩ := committed_frame s
  rw [DrainSound, pool, regime]
  exact (regimeAfter_pool _).2 drain

/-- The settings of a commit, with the request in the entry stage waiting for what the new regime has. -/
theorem committed_kept {stage : Stage}
    (held : stage = s.stage ∨ ∃ req reg, Waits req reg s.stage ∧ Waits req reg stage)
    (fits : RegimeFit s → stageFits (committed s).cfg.regime stage) : Kept s { committed s with stage := stage } := by
  obtain ⟨_, tags, list, offers, pool, table, resp, _, regime⟩ := committed_frame s
  refine .of_moves (.trans (.single (.regime s (committed s).cfg.regime stage held fun fit => ⟨?_, fits fit⟩))
    (.single (.quiet rfl tags list offers pool table resp rfl fun _ => ?_))) committed_drainSound list offers
  · rw [regime]
    exact (regimeAfter_pool _).1 fit
  · exact fun sound => committed_balancesSound (s := s) sound

/-- The request in the entry stage after a commit (R13, R16, R17). -/
theorem reexamine_kept (s : State) : Kept s (reexamine s.cfg.regime (committed s)) := by
  obtain ⟨stage, _⟩ := committed_frame s
  have unmoved (fits : RegimeFit s → stageFits (committed s).cfg.regime s.stage) : Kept s (committed s) := by
    have kept := committed_kept (stage := s.stage) (.inl rfl) fits
    rwa [← stage] at kept
  unfold reexamine
  split
  · next req reg k start waits _ after =>
    have waiting : Waits req reg (committed s).stage := by rw [waits]; exact .slot k start
    refine (unmoved fun _ => ?_).trans ?_
    · rw [← stage, waits]
      exact after
    split
    · exact refuseWaiting_kept waiting _ _
    split
    · exact place_kept waiting (fun _ => by simp [after]) _
    split
    · exact refuseWaiting_kept waiting _ _
    · exact .refl _
  · next req reg k start waits _ after =>
    exact committed_kept (.inr ⟨req, reg, by rw [← stage, waits]; exact .slot k start, .drain⟩) fun _ => after
  · next req reg k start waits _ after =>
    rw [← passPath_restage (.waitIssue req reg)]
    exact (committed_kept (.inr ⟨req, reg, by rw [← stage, waits]; exact .slot k start, .issue⟩) fun _ => after).trans
      (passPath_kept .issue fun _ => after)
  · next req reg waits _ after =>
    rw [← regulatedChecks_restage (.waitSlot req reg 0 0)]
    exact (committed_kept (.inr ⟨req, reg, by rw [← stage, waits]; exact .issue, .slot 0 0⟩) fun _ => after).trans
      (regulatedChecks_kept (.slot 0 0) fun _ => after)
  · next req reg waits _ after =>
    rw [← regulatedChecks_restage (.waitSlot req reg 0 0)]
    exact (committed_kept (.inr ⟨req, reg, by rw [← stage, waits]; exact .drain, .slot 0 0⟩) fun _ => after).trans
      (regulatedChecks_kept (.slot 0 0) fun _ => after)
  · next slotStays slotDrains slotPasses issueRegulates drainRegulates =>
    refine unmoved fun ⟨_, fits⟩ => ?_
    obtain ⟨_, _, _, _, _, _, _, _, regime⟩ := committed_frame s
    rw [stage] at slotStays slotDrains slotPasses issueRegulates drainRegulates
    cases waits : s.stage with
    | empty => trivial
    | waitRefusal => trivial
    | waitSlot req reg k start =>
      rw [waits] at fits
      cases after : (committed s).cfg.regime with
      | pass => exact (slotPasses _ _ _ _ waits fits after).elim
      | regulate => rfl
      | draining => exact (slotDrains _ _ _ _ waits fits after).elim
    | waitDrain req reg =>
      rw [waits] at fits
      rw [regime, show s.cfg.regime = .draining from fits] at drainRegulates ⊢
      cases request : requestsRegulate s.cfg.staged.global with
      | true => exact (drainRegulates _ _ waits rfl (by rw [request]; rfl)).elim
      | false => rfl
    | waitIssue req reg =>
      rw [waits] at fits
      rw [regime, show s.cfg.regime = .pass from fits] at issueRegulates ⊢
      cases request : requestsRegulate s.cfg.staged.global with
      | true => exact (issueRegulates _ _ waits rfl (by rw [request]; rfl)).elim
      | false => rfl

theorem commitTimeouts_kept (old : Settings) (s : State) : Kept s (commitTimeouts old s) := by
  unfold commitTimeouts
  split
  · exact .refl s
  · exact expireDue_kept _ fun n due => due

/-- COMMIT_EVENT (R185). -/
theorem judgeCommit_kept (s : State) : Kept s (judgeCommit s) := by
  unfold judgeCommit
  split
  · split
    · exact .of_frame (by simp)
    · rw [applyCommit_eq]
      refine ((reexamine_kept s).trans (expireSelected_kept _ (fun h due => ?_) _)).trans (commitTimeouts_kept _ _)
      simp [State.holdDue] at due
      exact due.2.1.1
  · exact .refl s

end
end Sys2Proof.Machine.TrafficMoves

/-! The reset inputs, the commands of the command slot and the management link as runs of moves, and so every step (R25, R26,
R28). -/

namespace Sys2Proof.Machine.TrafficMoves

section
variable {s t u : State}

/-! ### The reset inputs (R25, R26, R28) -/

/-- URST# leaves no resident transaction in the in-flight table (R113). -/
theorem urstEntry_resident (e : Entry) : (urstEntry e).resident = none := by
  rcases e with _ | ⟨t, _ | l⟩ | ⟨t, _ | _⟩ | ⟨t, c⟩ <;> rfl

/-- URST_ASSERT (R26). -/
theorem purge_kept (s : State) : Kept s (purge s) := by
  obtain ⟨counted, _⟩ := foldl_drain (allEntries.filterMap fun n => s.table[n].heldResponse) s
  unfold purge countDrains
  dsimp only at counted ⊢
  rw [counted]
  refine Kept.trans ⟨?_, fun _ => checkPoolEmpty_drainSound _, fun _ => ?_⟩ (checkDrained_kept _)
  · refine Relation.ReflTransGen.trans (.single (.clear rfl rfl rfl rfl rfl (fun n => ?_) rfl ?_)) (checkPoolEmpty_moves _)
    · exact (congrArg Entry.resident (mapAll_get s.table (fun _ e => urstEntry e) n)).trans (urstEntry_resident _)
    · exact balancesSound_congr (s := s) (fun _ => rfl) (fun _ => rfl) fun _ => rfl
  · simp [State.ListSound, setPool]

/-- A drain report does not read the waiting offers (R84). -/
theorem checkDrained_withOffers (offers : List Offer) (s : State) :
    checkDrained { s with offers := offers } = { checkDrained s with offers := offers } := by
  cases reports : s.retiringStream with
  | none =>
    have reports' : State.retiringStream { s with offers := offers } = none := reports
    simp only [checkDrained, reports, reports']
  | some k =>
    have reports' : State.retiringStream { s with offers := offers } = some k := reports
    by_cases drained : s.drained k = true
    · have drained' : State.drained { s with offers := offers } k = true := drained
      simp only [checkDrained, reports, reports', drained, drained', if_true]
      rfl
    · have drained' : ¬ State.drained { s with offers := offers } k = true := drained
      simp only [checkDrained, reports, reports', drained, drained', if_false, Bool.false_eq_true]

/-- The end of an entry does not read the waiting offers (R107, R111). -/
theorem acceptLost_withOffers (n : EntryId) (offers : List Offer) (s : State) :
    acceptLost n { s with offers := offers } = { acceptLost n s with offers := offers } := by
  cases entry : s.table[n] with
  | expiring t c =>
    cases c with
    | timeout =>
      simp only [acceptLost, entry]
      exact checkDrained_withOffers offers
        (raiseGlobal .lost (countTo t.stream Acc.lost { s with table := putAt s.table n (.quarantined t .timeout) }))
    | dreset =>
      simp only [acceptLost, entry]
      exact checkDrained_withOffers offers
        (raiseGlobal .lost (countTo t.stream Acc.lost { s with table := putAt s.table n .free }))
  | free => simp only [acceptLost, entry]
  | active => simp only [acceptLost, entry]
  | quarantined => simp only [acceptLost, entry]

/-- The first of several LOST offers is accepted at once, or waits like the others. -/
theorem makeLostOffer_moves (n : EntryId) (e : LocalEntry) (l : List Offer) (t : State) :
    let o : Offer := { offerer := .inflight n, entry := e }
    Moves { t with offers := t.offers ++ o :: l } { makeOffer o t with offers := (makeOffer o t).offers ++ l } := by
  dsimp only
  by_cases place : t.localList.length < Config.listPlaces
  · have accepts := acceptOffer_moves (s := { t with offers := t.offers ++ { offerer := .inflight n, entry := e } :: l }) rfl
    have offers : (acceptLost n { t with localList := t.localList ++ [e] }).offers = t.offers := by simp
    rw [makeOffer_accepted place, acceptOffer_inflight, offers, ← acceptLost_withOffers]
    rw [acceptOffer_inflight] at accepts
    exact accepts
  · rw [makeOffer_waits place, List.append_assoc]
    exact .refl

/-- The LOST offers of in-flight entries, made one after the other, after a run of moves up to all of them. -/
theorem makeLostOffers_kept : ∀ (l : List Offer) (s t : State), (∀ o ∈ l, ∃ n, o.offerer = .inflight n) →
    Moves s { t with offers := t.offers ++ l } → (DrainSound s → DrainSound t) → (s.ListSound → t.ListSound) →
    Kept s (l.foldl (fun s o => makeOffer o s) t)
  | [], s, t, _, moves, drain, list => ⟨by simpa using moves, drain, list⟩
  | o :: l, s, t, inflight, moves, drain, list => by
    refine makeLostOffers_kept l s _ (fun x member => inflight x (List.mem_cons_of_mem o member)) ?_
      (makeOffer_drainSound o ∘ drain) (makeOffer_listSound o ∘ list)
    obtain ⟨n, offerer⟩ := inflight o List.mem_cons_self
    obtain ⟨_, e⟩ := o
    subst offerer
    exact moves.trans (makeLostOffer_moves n e l t)

/-- DRST_ASSERT (R111). -/
theorem cutDownstream_kept (s : State) : Kept s (cutDownstream s) := by
  refine makeLostOffers_kept _ s _ (fun o member => ?_) ((Move.cut s).upTo ?_) id id
  · obtain ⟨n, _, made⟩ := List.mem_filterMap.mp member
    split at made <;> simp only [Option.some.injEq, reduceCtorEq] at made
    exact ⟨n, made ▸ rfl⟩
  · exact ⟨rfl, rfl, rfl, rfl, rfl, rfl, rfl, rfl, rfl, rfl⟩

/-- RESET_ASSERT (R25): the power-on state meets every bound. -/
theorem assertReset_kept (s : State) : Kept s (assertReset s) := by
  refine ⟨.single (.clear rfl rfl rfl rfl rfl (fun n => ?_) rfl fun _ k => ?_), fun _ => ?_, fun _ => ?_⟩
  · simp [assertReset, State.powerOn, Entry.resident]
  · simp [assertReset, State.powerOn, State.isProtected, State.record, CfgUnit.powerOn, Settings.powerOn, StreamRecord.powerOn,
      classOf]
  · simp [DrainSound, assertReset, State.powerOn, CfgUnit.powerOn]
  · simp [State.ListSound, assertReset, State.powerOn]

theorem deassertReset_kept (straps : BitVec 2) (s : State) : Kept s (deassertReset straps s) := by
  unfold deassertReset
  split
  · exact .of_frame ⟨rfl, rfl, rfl, rfl, rfl, rfl, rfl, rfl, rfl, rfl⟩
  · exact .refl s

/-! ### The commands of the command slot and the management link -/

theorem arriveAs_kept (code : Byte) {act : State → State} (acts : ∀ t, Kept t (act t)) (s : State) :
    Kept s (arriveAs code act s) := by
  unfold arriveAs
  split
  · exact .of_frame (by simp)
  · exact (acts _).after (by simp)

theorem actCommit_kept (s : State) : Kept s (actCommit s) := by
  unfold actCommit
  split <;> exact .of_frame (by simp)

/-- A request in WAIT_SLOT for the retiring stream is refused (R13). -/
theorem refuseRetired_kept (k : StreamId) (s : State) : Kept s (refuseRetired k s) := by
  unfold refuseRetired
  split
  · next req reg j start stage =>
    split
    · exact refuseWaiting_kept (by rw [stage]; exact .slot j start) _ _
    · exact .refl s
  all_goals exact .refl s

theorem actRetire_kept (s : State) : Kept s (actRetire s) := by
  unfold actRetire
  split
  · dsimp only
    split
    · exact .of_frame (by simp)
    split
    · exact .of_frame (by simp)
    · exact ((refuseRetired_kept _ _).trans (checkDrained_kept _)).after (by simp)
  · exact .of_frame (by simp)

/-- RESTART clears the starved flags and no balance (R57, R193). -/
theorem actRestart_kept (s : State) : Kept s (actRestart s) :=
  .of_balances (by simp [actRestart]) fun _ => balancesSound_congr
    (fun k => congrArg (·.balance) (MeasurementEpochs.actRestart_account s k))
    (fun _ => by simp [actRestart, State.isProtected, State.record]) fun _ => by simp [actRestart, State.record]

theorem takeCommit_kept : ∀ s : State, Kept s (takeCommit s) := arriveAs_kept _ actCommit_kept

theorem takeRevert_kept : ∀ s : State, Kept s (takeRevert s) := arriveAs_kept _ fun _ => .of_frame (by simp [actRevert])

theorem takeAck_kept : ∀ s : State, Kept s (takeAck s) := arriveAs_kept _ fun _ => .of_frame (by simp [actAck])

theorem takeRetire_kept : ∀ s : State, Kept s (takeRetire s) := arriveAs_kept _ actRetire_kept

theorem takeRestart_kept : ∀ s : State, Kept s (takeRestart s) := arriveAs_kept _ actRestart_kept

theorem takeCancel_kept (s : State) : Kept s (takeCancel s) := by
  unfold takeCancel
  split <;> exact .of_frame (by simp)

theorem commandArrives_kept (code : Byte) (s : State) : Kept s (commandArrives code s) := by
  unfold commandArrives
  split
  · exact takeCommit_kept s
  split
  · exact takeRevert_kept s
  split
  · exact takeAck_kept s
  split
  · exact takeRetire_kept s
  split
  · exact takeRestart_kept s
  split
  · exact takeCancel_kept s
  · exact arriveAs_kept code (fun _ => .of_frame (by simp [actUnknown])) s

/-- A staged write reaches the staged copy and the slot only (R174, R184). -/
theorem writeStaged_kept (page off v : Nat) (s : State) : Kept s (writeStaged page off v s) := by
  unfold writeStaged
  split
  · exact .refl s
  split
  · exact .refl s
  split
  · exact .of_frame (by simp)
  split
  · exact .refl s
  · exact .of_frame (by simp)

theorem completeOther_kept (page off v : Nat) (s : State) : Kept s (completeOther page off v s) := by
  unfold completeOther
  dsimp only
  split
  · exact commandArrives_kept _ s
  repeat' split
  all_goals exact .of_frame (by simp)

/-- A byte of a staged field goes to the write latch or completes the field (R201). -/
theorem writeLatched_kept (page lo : Nat) (f : Field Settings) (i : Nat) (b : Byte) (s : State) :
    Kept s (writeLatched page lo f i b s) := by
  unfold writeLatched
  dsimp only
  split
  · exact (writeStaged_kept _ _ _ _).after (by simp)
  · exact .of_frame (by simp)

theorem writeAt_kept (page off : Nat) (b : Byte) (s : State) : Kept s (writeAt page off b s) := by
  unfold writeAt
  split
  · unfold writeStagedByte
    split
    · exact .refl s
    split
    · exact .refl s
    split
    · exact writeStaged_kept _ _ _ s
    · exact writeLatched_kept _ _ _ _ _ s
  · exact completeOther_kept _ _ _ s

theorem receiveByte_kept (b : Byte) (s : State) : Kept s (receiveByte b s) := by
  unfold receiveByte
  split
  · exact .of_frame (by simp)
  · exact .of_frame (by simp)
  · split
    · have moves := writeAt_kept s.link.page.toNat s.link.offset b (setPointer s.link.page (s.link.offset + 1) .writeData s)
      exact (moves.after (by simp)).trans (.of_frame (by simp))
    · exact .of_frame (by simp)
  · exact .of_frame (by simp)
  · exact .of_frame (by simp)

theorem clockByte_kept (hot ack : Bool) (s : State) : Kept s (clockByte hot ack s) := by
  unfold clockByte
  split
  · exact .of_frame (by simp)
  · exact .refl s

theorem startTransfer_kept (address : BitVec 7) (read : Bool) (s : State) : Kept s (startTransfer address read s) := by
  unfold startTransfer
  dsimp only
  split <;> exact .of_frame (by simp)

theorem abandonTransfer_kept (lowFor : Nat) (s : State) : Kept s (abandonTransfer lowFor s) := by
  unfold abandonTransfer
  split
  · exact .of_frame (by simp)
  · exact .refl s

/-! ### Every step -/

theorem event_kept {f : State → State} (kept : ∀ s, Kept s (f s)) (s : State) : Kept s (event f s) := by
  unfold event
  split
  · exact .refl s
  · exact (kept s).trans (finish_kept s _)

theorem whileRunning_kept {f : State → State} (kept : ∀ s, Kept s (f s)) (s : State) : Kept s (whileRunning f s) := by
  unfold whileRunning
  split
  · exact .refl s
  · exact kept s

/-- An input level moves. -/
theorem pins_kept (pins : Pins) (s : State) : Kept s { s with pins := pins } :=
  .of_frame ⟨rfl, rfl, rfl, rfl, rfl, rfl, rfl, rfl, rfl, rfl⟩

/-- A reset input that moves its level while RESET# is asserted, and is an event otherwise. -/
theorem level_kept {pins : Pins} (kept : Kept s u) :
    Kept s (if s.pins.reset then { s with pins := pins } else finish s u) := by
  split
  · exact pins_kept pins s
  · exact kept.trans (finish_kept s u)

/-- Every command is a run of moves. -/
theorem exec_kept (c : Instr) (s : State) : ∃ t, exec c s = .next t ∧ Kept s t := by
  cases c with
  | requestTaken req => exact ⟨_, rfl, event_kept (takeRequest_kept req) s⟩
  | placement => exact ⟨_, rfl, event_kept retestSlot_kept s⟩
  | passIssue => exact ⟨_, rfl, event_kept passIssue_kept s⟩
  | issue => exact ⟨_, rfl, event_kept issueGrant_kept s⟩
  | responseArrival r => exact ⟨_, rfl, event_kept (arrive_kept r) s⟩
  | responseDelivered => exact ⟨_, rfl, event_kept deliverResponse_kept s⟩
  | offerAccepted => exact ⟨_, rfl, event_kept acceptOldest_kept s⟩
  | stallTimeout => exact ⟨_, rfl, event_kept expireStall_kept s⟩
  | holdTimeout who => exact ⟨_, rfl, event_kept (expireHolds_kept who) s⟩
  | responseTimeout who => exact ⟨_, rfl, event_kept (expireResponses_kept who) s⟩
  | refillTick => exact ⟨_, rfl, event_kept refillTick_kept s⟩
  | publication => exact ⟨_, rfl, event_kept publish_kept s⟩
  | adjustment hot => exact ⟨_, rfl, event_kept (adjust_kept hot) s⟩
  | commitEvent => exact ⟨_, rfl, event_kept judgeCommit_kept s⟩
  | poolEmpty => exact ⟨_, rfl, event_kept (fun s => checkPoolEmpty_kept (.refl) rfl rfl) s⟩
  | retirementCompletion => exact ⟨_, rfl, event_kept checkDrained_kept s⟩
  | resetAssert => exact ⟨_, rfl, assertReset_kept s⟩
  | resetDeassert straps => exact ⟨_, rfl, deassertReset_kept straps s⟩
  | urstAssert => exact ⟨_, rfl, level_kept (purge_kept s)⟩
  | urstDeassert => exact ⟨_, rfl, pins_kept _ s⟩
  | drstAssert => exact ⟨_, rfl, level_kept (cutDownstream_kept s)⟩
  | drstDeassert => exact ⟨_, rfl, (finish_kept s _).after (by simp)⟩
  | transferStart address read => exact ⟨_, rfl, whileRunning_kept (startTransfer_kept address read) s⟩
  | writeByte b => exact ⟨_, rfl, whileRunning_kept (receiveByte_kept b) s⟩
  | readByte hot ack => exact ⟨_, rfl, whileRunning_kept (clockByte_kept hot ack) s⟩
  | transferEnd => exact ⟨_, rfl, whileRunning_kept (fun _ => .of_frame (by simp)) s⟩
  | sclTimeout lowFor => exact ⟨_, rfl, whileRunning_kept (abandonTransfer_kept lowFor) s⟩
  | commit => exact ⟨_, rfl, whileRunning_kept takeCommit_kept s⟩
  | revert => exact ⟨_, rfl, whileRunning_kept takeRevert_kept s⟩
  | ack => exact ⟨_, rfl, whileRunning_kept takeAck_kept s⟩
  | retire => exact ⟨_, rfl, whileRunning_kept takeRetire_kept s⟩
  | restart => exact ⟨_, rfl, whileRunning_kept takeRestart_kept s⟩
  | cancel => exact ⟨_, rfl, whileRunning_kept takeCancel_kept s⟩
  | unknownCode code => exact ⟨_, rfl, whileRunning_kept (commandArrives_kept code) s⟩
  | stagedWrite page offset value => exact ⟨_, rfl, whileRunning_kept (writeStaged_kept _ _ _) s⟩
  | maskWrite which value => exact ⟨_, rfl, whileRunning_kept (fun _ => .of_frame (by simp)) s⟩
  | alertHoldWrite value => exact ⟨_, rfl, whileRunning_kept (fun _ => .of_frame (by simp)) s⟩
  | fieldWrite arg value => exact ⟨_, rfl, whileRunning_kept (fun _ => .of_frame (by simp)) s⟩
  | downstreamPortReady ready => exact ⟨_, rfl, (finish_kept s _).after (by simp)⟩

theorem kept_of_exec {c : Instr} (answer : exec c s = .next t) : Kept s t := by
  obtain ⟨u, answered, kept⟩ := exec_kept c s
  rw [answered] at answer
  cases answer
  exact kept

/-- A step runs a command, from the queue or by itself, or lets time pass. -/
theorem step_kept (stepped : step s = .next t) : Kept s t := by
  unfold step at stepped
  split at stepped
  · exact (kept_of_exec stepped).after ⟨rfl, rfl, rfl, rfl, rfl, rfl, rfl, rfl, rfl, rfl⟩
  · unfold idle at stepped
    split at stepped
    · exact kept_of_exec stepped
    · cases stepped
      split
      · exact .refl s
      · exact .of_frame ⟨rfl, rfl, rfl, rfl, rfl, rfl, rfl, rfl, rfl, rfl⟩

end

/-! ### The local response list (R20, R21) -/

/-- Settles O49: an offer is accepted while there is a place, waits only when there is none, and a place that a delivery frees
goes to the oldest waiting offer in the same event. -/
theorem listInvariant : Obligations.ListInvariant := fun _ _ sound stepped => (step_kept stepped).list sound

end Sys2Proof.Machine.TrafficMoves

/-! What each move keeps of the regime (R5, R82, R178), of the balances (R48, R49) and of the response held (R3, R99, R101). -/

namespace Sys2Proof.Machine.TrafficMoves

section
variable {s t : State}

/-! ### The regime (R5, R82, R178) -/

theorem leaveQueue_nil (stay : Held → List Held) (p : TagPair) : leaveQueue stay p [] = [] := rfl

/-- Every move keeps the pool and the entry stage in line with the regime, but for the end of DRAINING. -/
theorem Move.regimeFit (move : Move s t) (fit : RegimeFit s) : RegimeFit t := by
  have emptyInPass := fit.1
  cases move with
  | quiet stage _ _ _ pool _ _ regime _ => rwa [RegimeFit, stage, pool, regime]
  | regime _ _ _ fits => exact fits fit
  | take _ _ _ _ fits => exact ⟨emptyInPass, fits⟩
  | refuse _ _ may => exact ⟨emptyInPass, trivial⟩
  | place h _ _ regulates => exact ⟨fun pass => absurd pass (regulates fit), trivial⟩
  | send n f _ _ _ => exact ⟨emptyInPass, trivial⟩
  | issue n f held _ =>
    refine ⟨fun pass => ?_, fit.2⟩
    change leaveQueue _ _ s.pool = []
    rw [emptyInPass pass, leaveQueue_nil]
  | expireHeld p held =>
    refine ⟨fun pass => ?_, fit.2⟩
    change leaveQueue _ _ s.pool = []
    rw [emptyInPass pass, leaveQueue_nil]
  | expireEntry | respond | respondLate | release | deliver | answer | cut | acceptLost => exact fit
  | acceptStage => exact ⟨emptyInPass, trivial⟩
  | acceptStale =>
    refine ⟨fun pass => ?_, fit.2⟩
    change dropExpired _ s.pool = []
    rw [emptyInPass pass]
    rfl
  | clear stage _ _ _ pool _ _ _ => exact ⟨fun _ => pool, by rw [stage]; trivial⟩

/-! ### The transactions that may be issued, and the balances (R8, R48, R49) -/

theorem wellFormed_of_waits {req : Request} {reg : Bool} {stage : Stage} (waits : Waits req reg stage) :
    stage.wellFormed ↔ malformed req = false := by
  cases waits <;> rfl

/-- Leaving a queue adds no request to the pool. -/
theorem mem_leaveQueue_req {stay : Held → List Held} (same : ∀ h, ∀ g ∈ stay h, g.req = h.req) {p : TagPair} {pool : List Held}
    {h : Held} (member : h ∈ leaveQueue stay p pool) : ∃ g ∈ pool, h.req = g.req := by
  rcases leaveQueue_split stay p pool with stands | ⟨before, x, after, split, _, _, left⟩
  · exact ⟨h, stands ▸ member, rfl⟩
  · rw [left, List.mem_append, List.mem_append, List.mem_map] at member
    subst split
    rcases member with (early | stays) | ⟨g, late, released⟩
    · exact ⟨h, by simp [early], rfl⟩
    · exact ⟨x, by simp, same x h stays⟩
    · exact ⟨g, by simp [late], by rw [← released]; simp⟩

theorem requestsSound_leaveQueue {stay : Held → List Held} (same : ∀ h, ∀ g ∈ stay h, g.req = h.req) {p : TagPair}
    (sound : ∀ h ∈ s.pool, malformed h.req = false) : ∀ h ∈ leaveQueue stay p s.pool, malformed h.req = false :=
  fun h member => by
    obtain ⟨g, held, req⟩ := mem_leaveQueue_req same member
    rw [req]
    exact sound g held

/-- Every move keeps the span of what may be issued, and the bounds of the balances. -/
theorem Move.balances (move : Move s t) (sound : s.RequestsSound ∧ s.BalancesSound) : t.RequestsSound ∧ t.BalancesSound := by
  obtain ⟨⟨formed, held⟩, bounds⟩ := sound
  cases move with
  | quiet stage _ _ _ pool _ _ _ balances =>
    exact ⟨by rw [State.RequestsSound, stage, pool]; exact ⟨formed, held⟩, balances ⟨formed, held⟩ bounds⟩
  | regime after stage waits _ =>
    refine ⟨⟨?_, held⟩, bounds⟩
    rcases waits with same | ⟨req, reg, waits, waits'⟩
    · exact same ▸ formed
    · exact (wellFormed_of_waits waits').mpr ((wellFormed_of_waits waits).mp formed)
  | take _ _ wf waits _ => exact ⟨⟨(wellFormed_of_waits waits).mpr wf, held⟩, bounds⟩
  | refuse => exact ⟨⟨trivial, held⟩, bounds⟩
  | place h waits _ _ =>
    refine ⟨⟨trivial, fun g member => ?_⟩, bounds⟩
    rcases List.mem_append.mp member with old | new
    · exact held g old
    · rw [List.mem_singleton.mp new]
      exact (wellFormed_of_waits waits).mp formed
  | send => exact ⟨⟨trivial, held⟩, bounds⟩
  | issue => exact ⟨⟨formed, requestsSound_leaveQueue (by simp) held⟩, bounds⟩
  | expireHeld => exact ⟨⟨formed, requestsSound_leaveQueue (by simp) held⟩, bounds⟩
  | expireEntry | respond | respondLate | release | deliver | answer | cut | acceptLost => exact ⟨⟨formed, held⟩, bounds⟩
  | acceptStage => exact ⟨⟨trivial, held⟩, bounds⟩
  | acceptStale => exact ⟨⟨formed, fun h member => held h (List.mem_of_mem_filter member)⟩, bounds⟩
  | clear stage _ _ _ pool _ _ balances =>
    refine ⟨⟨by rw [stage]; trivial, fun h member => ?_⟩, balances bounds⟩
    rw [pool] at member
    exact absurd member (List.not_mem_nil)

/-! ### The response held (R3, R99, R101) -/

/-- An ACTIVE entry that holds a response (R99). -/
def Holds (e : Entry) : Prop := ∃ t l, e = .active t (some l)

theorem heldResponseSound_iff (s : State) :
    s.HeldResponseSound ↔ ∀ n : EntryId, Holds s.table[n] ↔ ∃ r, s.downResp = some r ∧ r.entry = n := by
  unfold State.HeldResponseSound Holds
  cases offered : s.downResp with
  | none => simp
  | some r =>
    simp only [Option.some.injEq, exists_eq_left']
    constructor
    · rintro ⟨holds, only⟩ n
      exact ⟨fun ⟨t, l, entry⟩ => (only n t l entry).symm, fun same => same ▸ holds⟩
    · intro sound
      exact ⟨(sound r.entry).mpr rfl, fun n t l entry => ((sound n).mp ⟨t, l, entry⟩).symm⟩

/-- The entries that hold a response, after a change of one entry. -/
theorem holds_putAt (v : Vector Entry 48) (n m : EntryId) (e : Entry) :
    Holds (putAt v n e)[m] ↔ if m = n then Holds e else Holds v[m] := by
  rw [putAt_get]
  split <;> rfl

/-- A change of one entry from and to one without a response. -/
theorem heldResponseSound_putAt {n : EntryId} {e : Entry} (table : t.table = putAt s.table n e) (resp : t.downResp = s.downResp)
    (before : ¬ Holds s.table[n]) (after : ¬ Holds e) (sound : s.HeldResponseSound) : t.HeldResponseSound := by
  rw [heldResponseSound_iff] at sound ⊢
  intro m
  rw [table, resp, holds_putAt, ← sound m]
  split
  · next same =>
    subst same
    exact iff_of_false after before
  · rfl

/-- The arrival of the response of an entry, when none is offered (R3, R101). -/
theorem heldResponseSound_respond {r : OfferedResponse} {f : Flight} {l : Nat}
    (table : t.table = putAt s.table r.entry (.active f (some l))) (resp : t.downResp = some r) (empty : s.downResp = none)
    (sound : s.HeldResponseSound) : t.HeldResponseSound := by
  rw [heldResponseSound_iff] at sound ⊢
  intro m
  have quiet : ¬ Holds s.table[m] := fun holds => by
    obtain ⟨_, offered, _⟩ := (sound m).mp holds
    rw [empty] at offered
    cases offered
  rw [table, resp, holds_putAt]
  split
  · next same => exact iff_of_true ⟨f, l, rfl⟩ ⟨r, rfl, same.symm⟩
  · next other => exact iff_of_false quiet fun ⟨_, same, entry⟩ => other (by cases same; exact entry.symm)

/-- No entry holds a response and none is offered. -/
theorem heldResponseSound_none (resp : t.downResp = none) (table : ∀ n : EntryId, ¬ Holds t.table[n]) :
    t.HeldResponseSound := by
  rw [heldResponseSound_iff]
  intro n
  rw [resp]
  exact iff_of_false (table n) fun ⟨_, offered, _⟩ => by cases offered

theorem not_holds_of_resident {e : Entry} (absent : e.resident = none) : ¬ Holds e := by
  rintro ⟨f, l, rfl⟩
  simp [Entry.resident] at absent

theorem holds_endLost (e : Entry) : Holds (endLost e) ↔ Holds e := by
  rcases e with _ | ⟨f, _ | l⟩ | ⟨f, _ | _⟩ | ⟨f, c⟩ <;> simp [endLost, Holds]

theorem not_holds_drstEntry (e : Entry) : ¬ Holds (drstEntry e) := by
  rcases e with _ | ⟨f, l⟩ | ⟨f, c⟩ | ⟨f, c⟩ <;> simp [drstEntry, Holds]

/-- Every move keeps the offered response that of the one entry that holds one. -/
theorem Move.heldResponse (move : Move s t) (sound : s.HeldResponseSound) : t.HeldResponseSound := by
  cases move with
  | quiet _ _ _ _ _ table resp _ _ =>
    rw [heldResponseSound_iff] at sound ⊢
    rwa [table, resp]
  | regime | take | refuse | place | expireHeld | acceptStage | acceptStale | answer => exact sound
  | send n f _ free _ =>
    exact heldResponseSound_putAt (s := s) rfl rfl (by simp [free, Holds]) (by simp [Holds]) sound
  | issue n f _ free =>
    exact heldResponseSound_putAt (s := s) rfl rfl (by simp [free, Holds]) (by simp [Holds]) sound
  | expireEntry n f active =>
    exact heldResponseSound_putAt (s := s) rfl rfl (by simp [active, Holds]) (by simp [Holds]) sound
  | acceptLost =>
    rw [heldResponseSound_iff] at sound ⊢
    intro m
    change Holds (modAt s.table _ endLost)[m] ↔ ∃ r, s.downResp = some r ∧ r.entry = m
    rw [modAt_get, ← sound m]
    split
    · exact holds_endLost _
    · rfl
  | respond l r active empty entry =>
    subst entry
    exact heldResponseSound_respond (s := s) rfl rfl empty sound
  | respondLate l r expiring empty entry =>
    subst entry
    exact heldResponseSound_respond (s := s) rfl rfl empty sound
  | release quarantined =>
    exact heldResponseSound_putAt (s := s) rfl rfl (by simp [quarantined, Holds]) (by simp [Holds]) sound
  | deliver offered _ =>
    refine heldResponseSound_none rfl fun m => ?_
    rw [heldResponseSound_iff] at sound
    rw [holds_putAt, sound m, offered]
    split
    · simp [Holds]
    · next other => simpa [eq_comm] using other
  | cut =>
    refine heldResponseSound_none rfl fun m => ?_
    rw [mapAll_get]
    exact not_holds_drstEntry _
  | clear _ _ _ _ _ table resp _ => exact heldResponseSound_none resp fun n => not_holds_of_resident (table n)

end

/-! ### The statements -/

/-- Settles O54: each move keeps the pool empty in PASS and the entry stage in line with the regime, and every event that may
empty the pool of DRAINING ends with the test that makes it PASS. -/
theorem regimeInvariant : Obligations.RegimeInvariant := fun s t sound stepped => by
  obtain ⟨fit, drain⟩ := (regimeSound_iff s).mp sound
  have kept := step_kept stepped
  exact (regimeSound_iff t).mpr ⟨kept.moves.keeps Move.regimeFit fit, kept.drain drain⟩

/-- Settles O51: only well-formed requests wait to be issued, an issue charges a balance of 0 or more, and a refill or a commit
holds a balance to its ceiling. -/
theorem balanceInvariant : Obligations.BalanceInvariant :=
  fun _ _ requests bounds stepped => (step_kept stepped).moves.keeps Move.balances ⟨requests, bounds⟩

/-- Settles O59: a response is held when none is offered, it leaves its entry at its delivery, and the resets drop both. -/
theorem heldResponseInvariant : Obligations.HeldResponseInvariant :=
  fun _ _ sound stepped => (step_kept stepped).moves.keeps Move.heldResponse sound

end Sys2Proof.Machine.TrafficMoves

/-! The tag map and the waiting offers (R18, R21, R22): each move keeps the tag map equal to the pairs of the resident
transactions, which are counted place by place, and each offer that waits in line with its transaction. -/

namespace Sys2Proof.Machine.TrafficMoves

section
variable {s t : State}

/-! ### The pairs of the residents, place by place (R18) -/

/-- The pairs of the registered entries of a local response list. -/
def listedPairs (l : List LocalEntry) : List TagPair := (l.filter (·.registered)).map (·.pair)

/-- The pairs of the resident transactions of an in-flight table. -/
def tablePairs (v : Vector Entry 48) : List TagPair := (v.toList.filterMap Entry.resident).map (·.pair)

/-- The pair of an entry's resident transaction. -/
def entryPairs (e : Entry) : List TagPair := (e.resident.map (·.pair)).toList

theorem count_residents (s : State) (p : TagPair) : s.residents.count p = s.stage.registeredPair.count p +
    (listedPairs s.localList).count p + (s.pool.map Held.pair).count p + (tablePairs s.table).count p := by
  simp only [State.residents, List.count_append, listedPairs, tablePairs]

theorem listedPairs_append (l : List LocalEntry) (e : LocalEntry) :
    listedPairs (l ++ [e]) = listedPairs l ++ if e.registered then [e.pair] else [] := by
  cases registered : e.registered <;> simp [listedPairs, List.filter_append, registered]

theorem listedPairs_cons (e : LocalEntry) (l : List LocalEntry) :
    listedPairs (e :: l) = (if e.registered then [e.pair] else []) ++ listedPairs l := by
  cases registered : e.registered <;> simp [listedPairs, registered]

/-- The pairs of the table after a change of one entry. -/
theorem count_tablePairs_putAt (v : Vector Entry 48) (n : EntryId) (e : Entry) (p : TagPair) :
    (tablePairs (putAt v n e)).count p + (entryPairs v[n]).count p = (tablePairs v).count p + (entryPairs e).count p := by
  have inside : n.val < v.toList.length := by simp
  have whole : v.toList = v.toList.take n.val ++ v[n] :: v.toList.drop (n.val + 1) := by
    have cut := List.take_append_drop n.val v.toList
    rw [List.drop_eq_getElem_cons inside] at cut
    simpa using cut.symm
  have changed : (putAt v n e).toList = v.toList.take n.val ++ e :: v.toList.drop (n.val + 1) := by
    rw [putAt, Vector.toList_set, List.set_eq_take_append_cons_drop, if_pos inside]
  have entry (x : Entry) (l : List Entry) :
      (((x :: l).filterMap Entry.resident).map (·.pair)) = entryPairs x ++ (l.filterMap Entry.resident).map (·.pair) := by
    cases resident : x.resident <;> simp [entryPairs, resident]
  unfold tablePairs
  rw [changed]
  conv_rhs => rw [whole]
  simp only [List.filterMap_append, List.map_append, entry, List.count_append]
  omega

/-- A change of every entry that keeps what is resident. -/
theorem tablePairs_mapAll {f : Entry → Entry} (keeps : ∀ e, (f e).resident = e.resident) (v : Vector Entry 48) :
    tablePairs (mapAll v fun _ => f) = tablePairs v := by
  have each : (mapAll v fun _ => f).toList = v.toList.map f := by
    apply List.ext_getElem <;> simp
  unfold tablePairs
  rw [each, List.filterMap_map, show Entry.resident ∘ f = Entry.resident from funext keeps]

theorem tablePairs_none {v : Vector Entry 48} (absent : ∀ n : EntryId, v[n].resident = none) : tablePairs v = [] := by
  unfold tablePairs
  rw [List.filterMap_eq_nil_iff.mpr, List.map_nil]
  intro e member
  obtain ⟨i, inside, rfl⟩ := List.mem_iff_getElem.mp member
  simpa using absent ⟨i, by simpa using inside⟩

/-! ### The tag map (R18, R19) -/

theorem tagsSound_iff (s : State) : s.TagsSound ↔ (∀ p, s.residents.count p = s.tagMap.count p) ∧ s.tagMap.Nodup := by
  rw [State.TagsSound, List.perm_iff_count]

/-- The residents stay. -/
theorem tagsSound_keep (tags : t.tagMap = s.tagMap) (stay : ∀ p, t.residents.count p = s.residents.count p)
    (sound : s.TagsSound) : t.TagsSound := by
  rw [tagsSound_iff] at sound ⊢
  obtain ⟨counts, once⟩ := sound
  exact ⟨fun p => by rw [stay, tags, counts], tags ▸ once⟩

/-- A transaction with a new pair becomes resident. -/
theorem tagsSound_add {q : TagPair} (tags : t.tagMap = s.tagMap ++ [q]) (new : q ∉ s.tagMap)
    (joins : ∀ p, t.residents.count p = s.residents.count p + [q].count p) (sound : s.TagsSound) : t.TagsSound := by
  rw [tagsSound_iff] at sound ⊢
  obtain ⟨counts, once⟩ := sound
  refine ⟨fun p => by rw [joins, tags, counts, List.count_append], ?_⟩
  rw [tags]
  exact once.append (by simp) (by simpa using new)

/-- A transaction is resident no longer. -/
theorem tagsSound_remove {q : TagPair} (tags : t.tagMap = s.tagMap.filter (· ≠ q))
    (leaves : ∀ p, t.residents.count p + [q].count p = s.residents.count p) (sound : s.TagsSound) : t.TagsSound := by
  rw [tagsSound_iff] at sound ⊢
  obtain ⟨counts, once⟩ := sound
  refine ⟨fun p => ?_, tags ▸ once.filter _⟩
  have left := leaves p
  rw [counts] at left
  rw [tags]
  by_cases same : p = q
  · subst same
    have single := List.nodup_iff_count_le_one.mp once p
    have gone : (s.tagMap.filter (· ≠ p)).count p = 0 := List.count_eq_zero.mpr (by simp)
    simp only [List.count_singleton_self] at left
    omega
  · have other : [q].count p = 0 := List.count_eq_zero.mpr (by simpa using same)
    rw [List.count_filter (by simpa using same), ← left, other, Nat.add_zero]

/-- No two held transactions have the same pair. -/
theorem poolPairs_nodup (sound : s.TagsSound) : (s.pool.map Held.pair).Nodup := by
  rw [tagsSound_iff] at sound
  obtain ⟨counts, once⟩ := sound
  refine List.nodup_iff_count_le_one.mpr fun p => ?_
  have single := List.nodup_iff_count_le_one.mp once p
  rw [← counts, count_residents] at single
  omega

theorem held_unique (sound : s.TagsSound) {g h : Held} (memberG : g ∈ s.pool) (memberH : h ∈ s.pool) (same : g.pair = h.pair) :
    g = h := List.inj_on_of_nodup_map (poolPairs_nodup sound) memberG memberH same

/-! ### The entry stage -/

variable {req : Request} {reg : Bool}

theorem registeredPair_of_waits {stage : Stage} (waits : Waits req reg stage) :
    stage.registeredPair = if reg then [pairOf req] else [] := by
  cases waits <;> rfl

theorem registeredWait_of_waits {stage : Stage} (waits : Waits req reg stage) : stage.registeredWait ↔ reg = true := by
  cases waits <;> rfl

/-! ### The pool -/

/-- A WAITING transaction of the pair stands in the pool: it leaves its queue. -/
theorem leaveQueue_hit {stay : Held → List Held} (idle : ∀ h, ∀ g ∈ stay h, g.isWaiting = false) {p : TagPair}
    {pool : List Held} (held : p ∈ waitingPairs pool) : ∃ before h after, pool = before ++ h :: after ∧ h.isWaiting = true ∧
      h.pair = p ∧ leaveQueue stay p pool = before ++ stay h ++ after.map (releaseGuard h) := by
  rcases leaveQueue_split stay p pool with stands | left
  · have erased := waitingPairs_leaveQueue idle p pool
    rw [stands] at erased
    have shorter := List.length_erase_of_mem held
    have some_ := List.length_pos_of_mem held
    rw [← erased] at shorter
    omega
  · exact left

theorem pairs_released (h : Held) (l : List Held) : (l.map (releaseGuard h)).map Held.pair = l.map Held.pair := by
  simp [Function.comp_def]

/-- An issued transaction takes its pair out of the pool (R81). -/
theorem count_leaveQueue_issued {q : TagPair} {pool : List Held} (held : q ∈ waitingPairs pool) (p : TagPair) :
    ((leaveQueue (fun _ => []) q pool).map Held.pair).count p + [q].count p = (pool.map Held.pair).count p := by
  obtain ⟨before, h, after, split, _, pair, left⟩ := leaveQueue_hit (stay := fun _ => []) (by simp) held
  rw [left, split]
  simp only [List.append_nil, List.map_append, List.map_cons, pairs_released, pair, List.count_append, List.count_cons,
    List.count_nil]
  omega

/-- An expired transaction keeps its pair in the pool (R73). -/
theorem pairs_leaveQueue_expired {q : TagPair} {pool : List Held} (held : q ∈ waitingPairs pool) :
    (leaveQueue (fun h => [{ h with state := .expired }]) q pool).map Held.pair = pool.map Held.pair := by
  obtain ⟨before, h, after, split, _, _, left⟩ :=
    leaveQueue_hit (stay := fun h => [{ h with state := .expired }]) (by simp [Held.isWaiting]) held
  rw [left, split]
  simp only [List.map_append, List.map_cons, List.map_nil, pairs_released, List.append_assoc]
  rfl

/-- The EXPIRED transaction of a pair takes its pair out of the pool (R74). -/
theorem count_dropExpired {h : Held} {pool : List Held} (once : (pool.map Held.pair).Nodup) (member : h ∈ pool)
    (expired : h.state = .expired) (p : TagPair) :
    ((dropExpired h.pair pool).map Held.pair).count p + [h.pair].count p = (pool.map Held.pair).count p := by
  obtain ⟨before, after, split⟩ := List.append_of_mem member
  subst split
  have others : ∀ g ∈ before ++ after, (g.isWaiting || g.pair != h.pair) = true := fun g other => by
    rw [List.map_append, List.map_cons, List.nodup_middle, List.nodup_cons, ← List.map_append] at once
    have differs : g.pair ≠ h.pair := fun same => once.1 (same ▸ List.mem_map_of_mem other)
    simp [differs]
  have gone : (h.isWaiting || h.pair != h.pair) = false := by simp [Held.isWaiting, expired]
  have dropped : dropExpired h.pair (before ++ h :: after) = before ++ after := by
    rw [dropExpired, List.filter_append, List.filter_cons, if_neg (by rw [gone]; simp), ← List.filter_append]
    exact List.filter_eq_self.mpr others
  rw [dropped]
  simp only [List.map_append, List.map_cons, List.count_append, List.count_cons, List.count_nil]
  omega

/-- A transaction that leaves its queue moves no EXPIRED one. -/
theorem expired_stays {stay : Held → List Held} (idle : ∀ h, ∀ g ∈ stay h, g.isWaiting = false) {q : TagPair}
    {pool : List Held} (held : q ∈ waitingPairs pool) {h : Held} (member : h ∈ pool) (expired : h.state = .expired) :
    ∃ g ∈ leaveQueue stay q pool, g.pair = h.pair ∧ g.state = .expired := by
  obtain ⟨before, x, after, split, waiting, _, left⟩ := leaveQueue_hit idle held
  rw [left]
  rw [split, List.mem_append, List.mem_cons] at member
  rcases member with early | rfl | late
  · exact ⟨h, by simp [early], rfl, expired⟩
  · simp [Held.isWaiting, expired] at waiting
  · exact ⟨releaseGuard x h, List.mem_append_right _ (List.mem_map_of_mem late), by simp, by simp [expired]⟩

/-! ### The waiting offers (R21, R22) -/

/-- An offer stands while what its offerer waits with stays. -/
theorem offerStands_mono {o : Offer}
    (stage : o.offerer = .stage → ∀ req reg k r, s.stage = .waitRefusal req reg k r → t.stage = .waitRefusal req reg k r)
    (pool : ∀ p, o.offerer = .held p → ∀ h ∈ s.pool, h.pair = p → h.state = .expired →
      ∃ g ∈ t.pool, g.pair = p ∧ g.state = .expired)
    (table : ∀ n, o.offerer = .inflight n → ∀ f c, s.table[n] = .expiring f c → ∃ c', t.table[n] = .expiring f c')
    (stands : s.offerStands o) : t.offerStands o := by
  obtain ⟨_ | p | n, e⟩ := o
  · obtain ⟨req, reg, k, r, refused, entry⟩ := stands
    exact ⟨req, reg, k, r, stage rfl req reg k r refused, entry⟩
  · obtain ⟨⟨h, member, pair, expired⟩, entry⟩ := stands
    exact ⟨pool p rfl h member pair expired, entry⟩
  · obtain ⟨f, c, expiring, entry⟩ := stands
    obtain ⟨c', expiring'⟩ := table n rfl f c expiring
    exact ⟨f, c', expiring', entry⟩

/-- An offer of the entry stage stands only in WAIT_REFUSAL. -/
theorem not_stage_of_stands {o : Offer} (other : ∀ req reg k r, s.stage ≠ .waitRefusal req reg k r)
    (stands : s.offerStands o) : o.offerer ≠ .stage := by
  obtain ⟨_ | p | n, e⟩ := o
  · obtain ⟨req, reg, k, r, refused, _⟩ := stands
    exact absurd refused (other req reg k r)
  · simp
  · simp

theorem offersSound_keep (offers : t.offers = s.offers) (stands : ∀ o, s.offerStands o → t.offerStands o)
    (sound : s.OffersSound) : t.OffersSound := by
  obtain ⟨standing, once⟩ := sound
  rw [State.OffersSound, offers]
  exact ⟨fun o member => stands o (standing o member), once⟩

/-- New offers join the order: none of their offerers has one. -/
theorem offersSound_add {new : List Offer} (offers : t.offers = s.offers ++ new)
    (stands : ∀ o, s.offerStands o → t.offerStands o) (once : (new.map (·.offerer)).Nodup)
    (made : ∀ o ∈ new, t.offerStands o ∧ ∀ x, s.offerStands x → x.offerer ≠ o.offerer) (sound : s.OffersSound) :
    t.OffersSound := by
  obtain ⟨standing, distinct⟩ := sound
  rw [State.OffersSound, offers]
  refine ⟨fun o member => ?_, ?_⟩
  · rcases List.mem_append.mp member with old | fresh
    · exact stands o (standing o old)
    · exact (made o fresh).1
  · rw [List.map_append]
    refine distinct.append once fun offerer old fresh => ?_
    obtain ⟨x, memberX, rfl⟩ := List.mem_map.mp old
    obtain ⟨o, memberO, same⟩ := List.mem_map.mp fresh
    exact (made o memberO).2 x (standing x memberX) same.symm

/-- An offer is accepted: the other ones have other offerers. -/
theorem offersSound_accept {before after : List Offer} {o : Offer} (offers : s.offers = before ++ o :: after)
    (offers' : t.offers = before ++ after)
    (stands : ∀ x, x.offerer ≠ o.offerer → s.offerStands x → t.offerStands x) (sound : s.OffersSound) : t.OffersSound := by
  obtain ⟨standing, distinct⟩ := sound
  rw [offers, List.map_append, List.map_cons, List.nodup_middle, List.nodup_cons, ← List.map_append] at distinct
  obtain ⟨other, once⟩ := distinct
  rw [State.OffersSound, offers']
  refine ⟨fun x member => stands x (fun same => other (same ▸ List.mem_map_of_mem member)) (standing x ?_), once⟩
  rw [offers]
  exact List.mem_append.mpr ((List.mem_append.mp member).imp_right (List.mem_cons_of_mem o))

/-- What an accepted offer says of its offerer. -/
theorem stands_of_waits {before after : List Offer} {o : Offer} (offers : s.offers = before ++ o :: after)
    (sound : s.OffersSound) : s.offerStands o := sound.1 o (by simp [offers])

end
end Sys2Proof.Machine.TrafficMoves

/-! Each move keeps the tag map, the waiting offers and the registration of a request that waits (R6, R9, R18, R21, R22). -/

namespace Sys2Proof.Machine.TrafficMoves

section
variable {s t : State}

/-- The tag map, the waiting offers and the registration of a waiting request are in line with the residents. -/
structure Tagged (s : State) : Prop where
  tags : s.TagsSound
  offers : s.OffersSound
  wait : s.stage.registeredWait

/-! ### Every move keeps the registration of a request that waits (R6, R9) -/

theorem Move.registeredWait (move : Move s t) (sound : Tagged s) : t.stage.registeredWait := by
  have wait := sound.wait
  cases move with
  | quiet stage => rwa [stage]
  | regime after stage held _ =>
    rcases held with same | ⟨req, reg, waits, waits'⟩
    · exact same ▸ wait
    · exact (registeredWait_of_waits waits').mpr ((registeredWait_of_waits waits).mp wait)
  | take _ _ _ waits _ => exact (registeredWait_of_waits waits).mpr rfl
  | refuse | place | send | acceptStage => trivial
  | issue | expireHeld | expireEntry | acceptStale | acceptLost | respond | respondLate | release | deliver | answer | cut =>
    exact wait
  | clear stage => rw [stage]; trivial

/-! ### Every move keeps the tag map (R18, R19) -/

/-- A change of the entry stage, the list, the pool and the table that moves a transaction from one place to another. -/
theorem tagsSound_move (tags : t.tagMap = s.tagMap) (places : ∀ p, t.stage.registeredPair.count p +
    (listedPairs t.localList).count p + (t.pool.map Held.pair).count p + (tablePairs t.table).count p =
    s.stage.registeredPair.count p + (listedPairs s.localList).count p + (s.pool.map Held.pair).count p +
      (tablePairs s.table).count p) (sound : s.TagsSound) : t.TagsSound :=
  tagsSound_keep tags (fun p => by rw [count_residents, count_residents]; exact places p) sound

/-- A request is taken and waits, or is refused, with its pair in the tag map when it is registered (R6, R9, R14). -/
theorem refuse_tagsSound {req : Request} {reg : Bool} {tags : List TagPair} (k : Option StreamId) (r : Reason)
    (may : Refusable s req reg tags) (offers : List Offer) (sound : s.TagsSound) :
    ({ s with tagMap := tags, stage := .waitRefusal req reg k r, offers := offers } : State).TagsSound := by
  cases may with
  | waiting waits => exact tagsSound_move (s := s) rfl (fun p => by rw [registeredPair_of_waits waits]; rfl) sound
  | fresh empty new =>
    refine tagsSound_add (s := s) rfl new (fun p => ?_) sound
    rw [count_residents, count_residents]
    simp only [empty, Stage.registeredPair, if_true, List.count_nil]
    omega
  | duplicate empty => exact tagsSound_move (s := s) rfl (fun p => by rw [empty]; rfl) sound

/-- An entry of the table takes another transaction or none. -/
theorem count_table_changed {n : EntryId} {e : Entry} (table : t.table = putAt s.table n e) (p : TagPair) :
    (tablePairs t.table).count p + (entryPairs s.table[n]).count p = (tablePairs s.table).count p + (entryPairs e).count p := by
  rw [table]
  exact count_tablePairs_putAt s.table n e p

/-- An entry changes, and its transaction stays resident or was not resident. -/
theorem tagsSound_entry {n : EntryId} {e : Entry} (table : t.table = putAt s.table n e) (frame : t.tagMap = s.tagMap ∧
    t.stage = s.stage ∧ t.localList = s.localList ∧ t.pool.map Held.pair = s.pool.map Held.pair)
    (same : entryPairs e = entryPairs s.table[n]) (sound : s.TagsSound) : t.TagsSound := by
  obtain ⟨tags, stage, list, pool⟩ := frame
  refine tagsSound_move tags (fun p => ?_) sound
  have changed := count_table_changed table p
  rw [same] at changed
  rw [stage, list, pool]
  omega

theorem Move.tagsSound (move : Move s t) (sound : Tagged s) : t.TagsSound := by
  obtain ⟨tagged, standing, wait⟩ := sound
  cases move with
  | quiet stage tags list _ pool table _ _ _ => exact tagsSound_move tags (fun p => by rw [stage, list, pool, table]) tagged
  | regime after stage held _ =>
    refine tagsSound_move (s := s) rfl (fun p => ?_) tagged
    rcases held with same | ⟨req, reg, waits, waits'⟩
    · rw [same]
    · change stage.registeredPair.count p + _ + _ + _ = _
      rw [registeredPair_of_waits waits, registeredPair_of_waits waits']
  | take empty new _ waits _ =>
    refine tagsSound_add (s := s) rfl new (fun p => ?_) tagged
    have pair := registeredPair_of_waits waits
    rw [count_residents, count_residents, empty]
    dsimp only
    rw [pair, if_pos rfl, Stage.registeredPair, List.count_nil]
    omega
  | refuse k r may => exact refuse_tagsSound k r may _ tagged
  | place h waits _ _ =>
    refine tagsSound_move (s := s) rfl (fun p => ?_) tagged
    rw [registeredPair_of_waits waits, (registeredWait_of_waits waits).mp wait]
    simp only [Stage.registeredPair, if_true, List.map_append, List.map_cons, List.map_nil, List.count_append, Held.pair,
      List.count_nil]
    omega
  | send n f waits free pair =>
    refine tagsSound_move (s := s) rfl (fun p => ?_) tagged
    have joins := count_tablePairs_putAt s.table n (.active f none) p
    rw [registeredPair_of_waits waits, (registeredWait_of_waits waits).mp wait]
    simp only [free, entryPairs, Entry.resident, Option.map_none, Option.map_some, Option.toList_none, Option.toList_some,
      List.count_nil, pair] at joins
    simp only [Stage.registeredPair, if_true, List.count_nil]
    omega
  | issue n f held free =>
    refine tagsSound_move (s := s) rfl (fun p => ?_) tagged
    have joins := count_tablePairs_putAt s.table n (.active f none) p
    have leaves := count_leaveQueue_issued held p
    simp only [free, entryPairs, Entry.resident, Option.map_none, Option.map_some, Option.toList_none, Option.toList_some,
      List.count_nil] at joins
    dsimp only
    omega
  | expireHeld p held =>
    refine tagsSound_move (s := s) rfl (fun q => ?_) tagged
    simp only [pairs_leaveQueue_expired held]
  | expireEntry n f active =>
    exact tagsSound_entry (s := s) rfl ⟨rfl, rfl, rfl, rfl⟩ (by rw [active]; rfl) tagged
  | @acceptStage before after e offers =>
    obtain ⟨req, reg, k, r, refused, entry⟩ := stands_of_waits offers standing
    refine tagsSound_move (s := s) rfl (fun p => ?_) tagged
    simp only [refused, listedPairs_append, Stage.registeredPair, List.count_append, List.count_nil]
    change e = _ at entry
    subst entry
    dsimp only
    omega
  | @acceptStale before after q e offers =>
    obtain ⟨⟨h, member, pair, expired⟩, entry⟩ := stands_of_waits offers standing
    refine tagsSound_move (s := s) rfl (fun p => ?_) tagged
    subst pair
    have leaves := count_dropExpired (poolPairs_nodup tagged) member expired p
    change e = _ at entry
    subst entry
    simp only [listedPairs_append, if_true, List.count_append]
    omega
  | @acceptLost before after n e offers =>
    obtain ⟨f, c, expiring, entry⟩ := stands_of_waits offers standing
    refine tagsSound_move (s := s) rfl (fun p => ?_) tagged
    have ends := count_tablePairs_putAt s.table n (endLost s.table[n]) p
    have joins : e = { pair := f.pair, outcome := .lost, registered := true } := by
      simpa [lostOffer] using congrArg Offer.entry entry
    have gone : entryPairs (endLost (.expiring f c)) = [] := by cases c <;> rfl
    rw [expiring, gone] at ends
    simp only [entryPairs, Entry.resident, Option.map_some, Option.toList_some, List.count_nil] at ends
    simp only [joins, listedPairs_append, if_true, List.count_append, modAt, expiring]
    omega
  | respond l r active _ entry =>
    exact tagsSound_entry (s := s) rfl ⟨rfl, rfl, rfl, rfl⟩ (by rw [active]; rfl) tagged
  | respondLate l r expiring _ entry =>
    exact tagsSound_entry (s := s) rfl ⟨rfl, rfl, rfl, rfl⟩ (by rw [expiring]; rfl) tagged
  | release quarantined =>
    exact tagsSound_entry (s := s) rfl ⟨rfl, rfl, rfl, rfl⟩ (by rw [quarantined]; rfl) tagged
  | @deliver r f l offered held =>
    refine tagsSound_remove (s := s) rfl (fun p => ?_) tagged
    have leaves := count_tablePairs_putAt s.table r.entry .free p
    simp only [held, entryPairs, Entry.resident, Option.map_none, Option.map_some, Option.toList_none, Option.toList_some,
      List.count_nil] at leaves
    rw [count_residents, count_residents]
    dsimp only
    omega
  | @answer e rest head =>
    have split (p : TagPair) : (listedPairs s.localList).count p =
        (if e.registered then [e.pair] else []).count p + (listedPairs rest).count p := by
      rw [head, listedPairs_cons, List.count_append]
    cases registered : e.registered with
    | true =>
      refine tagsSound_remove (s := s) (q := e.pair) (by simp) (fun p => ?_) tagged
      rw [count_residents, count_residents, split p, registered]
      simp only [if_true]
      omega
    | false =>
      refine tagsSound_move (s := s) (by simp) (fun p => ?_) tagged
      rw [split p, registered]
      simp
  | cut =>
    refine tagsSound_move (s := s) rfl (fun p => ?_) tagged
    simp only [tablePairs_mapAll (f := drstEntry) fun e => by rcases e with _ | _ | _ | _ <;> rfl]
  | clear stage tags list _ pool table _ _ =>
    refine (tagsSound_iff t).mpr ⟨fun p => ?_, by rw [tags]; exact List.nodup_nil⟩
    rw [count_residents, stage, list, pool, tags, tablePairs_none table]
    rfl

/-! ### Every move keeps the waiting offers (R21, R22) -/

/-- An offer stands while the entry stage, the pool and the entry of its offerer stay. -/
theorem stands_putAt {o : Offer} {n : EntryId} {e : Entry} (frame : t.stage = s.stage ∧ t.pool = s.pool)
    (table : t.table = putAt s.table n e) (other : o.offerer = .inflight n → ∀ f c, s.table[n] ≠ .expiring f c)
    (stands : s.offerStands o) : t.offerStands o := by
  obtain ⟨stage, pool⟩ := frame
  refine offerStands_mono (fun _ _ _ _ _ refused => stage ▸ refused)
    (fun p _ h member pair expired => ⟨h, pool ▸ member, pair, expired⟩) (fun m inflight f c expiring => ⟨c, ?_⟩) stands
  rw [table, putAt_get, if_neg, expiring]
  rintro rfl
  exact other inflight f c expiring

/-- An offer stands while the pool and the table stay and the entry stage waits for no refusal. -/
theorem stands_restage {o : Offer} (frame : t.pool = s.pool ∧ t.table = s.table)
    (stage : o.offerer = .stage → ∀ req reg k r, s.stage ≠ .waitRefusal req reg k r) (stands : s.offerStands o) :
    t.offerStands o := by
  obtain ⟨pool, table⟩ := frame
  exact offerStands_mono (fun own req reg k r refused => absurd refused (stage own req reg k r))
    (fun p _ h member pair expired => ⟨h, pool ▸ member, pair, expired⟩) (fun m _ f c expiring => ⟨c, table ▸ expiring⟩) stands

/-- An offer stands while the entry stage and the table stay and the pool keeps its EXPIRED transactions. -/
theorem stands_repool {o : Offer} (frame : t.stage = s.stage ∧ t.table = s.table)
    (pool : ∀ p, o.offerer = .held p → ∀ h ∈ s.pool, h.pair = p → h.state = .expired →
      ∃ g ∈ t.pool, g.pair = p ∧ g.state = .expired) (stands : s.offerStands o) : t.offerStands o := by
  obtain ⟨stage, table⟩ := frame
  exact offerStands_mono (fun _ _ _ _ _ refused => stage ▸ refused) pool (fun m _ f c expiring => ⟨c, table ▸ expiring⟩) stands

theorem not_refused_of_waits {req : Request} {reg : Bool} {stage : Stage} (waits : Waits req reg stage) (req' : Request)
    (reg' : Bool) (k : Option StreamId) (r : Reason) : stage ≠ .waitRefusal req' reg' k r := by
  cases waits <;> exact Stage.noConfusion

/-- A request that may be refused now is not refused yet. -/
theorem not_refused_of_refusable {req : Request} {reg : Bool} {tags : List TagPair} (may : Refusable s req reg tags)
    (req' : Request) (reg' : Bool) (k : Option StreamId) (r : Reason) : s.stage ≠ .waitRefusal req' reg' k r := by
  cases may with
  | waiting waits => exact not_refused_of_waits waits req' reg' k r
  | fresh empty | duplicate empty => simp [empty]

/-- A transaction of the pool that is still WAITING has no waiting offer. -/
theorem not_held_of_waiting {p : TagPair} (held : p ∈ waitingPairs s.pool) (tags : s.TagsSound) {x : Offer}
    (stands : s.offerStands x) : x.offerer ≠ .held p := by
  intro own
  obtain ⟨_ | q | n, e⟩ := x
  · exact Offerer.noConfusion own
  · obtain ⟨⟨h, member, pair, expired⟩, _⟩ := stands
    obtain ⟨g, waits, pairG⟩ := List.mem_map.mp held
    obtain ⟨memberG, waiting⟩ := List.mem_filter.mp waits
    have same := held_unique tags memberG member (by rw [pairG, pair]; exact (Offerer.held.inj own).symm)
    simp [Held.isWaiting, same, expired] at waiting
  · exact Offerer.noConfusion own

/-- An entry that is not EXPIRING has no waiting offer. -/
theorem not_inflight_of_idle {n : EntryId} (idle : ∀ f c, s.table[n] ≠ .expiring f c) {x : Offer}
    (stands : s.offerStands x) : x.offerer ≠ .inflight n := by
  intro own
  obtain ⟨_ | q | m, e⟩ := x
  · exact Offerer.noConfusion own
  · exact Offerer.noConfusion own
  · obtain ⟨f, c, expiring, _⟩ := stands
    exact idle f c (Offerer.inflight.inj own ▸ expiring)

/-- The offers of DRST# are those of the ACTIVE entries. -/
theorem mem_drstOffers {o : Offer} : o ∈ drstOffers s ↔ ∃ n f l, s.table[n] = .active f l ∧ o = lostOffer n f := by
  unfold drstOffers
  rw [List.mem_filterMap]
  constructor
  · rintro ⟨n, _, made⟩
    split at made
    · next f l active => exact ⟨n, f, l, active, (Option.some.inj made).symm⟩
    all_goals exact absurd made (by simp)
  · rintro ⟨n, f, l, active, rfl⟩
    exact ⟨n, List.mem_finRange n, by rw [active]⟩

/-- No entry has two of the offers of DRST#. -/
theorem drstOffers_offerers_nodup (s : State) : ((drstOffers s).map (·.offerer)).Nodup := by
  unfold drstOffers
  rw [List.map_filterMap]
  refine (List.nodup_finRange 48).filterMap fun n m o ofN ofM => ?_
  have named (i : EntryId) (made : o ∈ Option.map (·.offerer) (match s.table[i] with
      | .active t _ => some (lostOffer i t)
      | .free | .expiring _ _ | .quarantined _ _ => none)) : o = .inflight i := by
    split at made
    · exact (Option.some.inj made).symm
    all_goals exact absurd made (by simp)
  exact Offerer.inflight.inj ((named n ofN).symm.trans (named m ofM))

theorem Move.offersSound (move : Move s t) (sound : Tagged s) : t.OffersSound := by
  obtain ⟨tags, offers, _⟩ := sound
  cases move with
  | quiet stage _ _ same pool table _ _ _ =>
    exact offersSound_keep same (fun _ stands => stands_repool ⟨stage, table⟩
      (fun p _ h member pair expired => ⟨h, pool ▸ member, pair, expired⟩) stands) offers
  | regime after stage held _ =>
    refine offersSound_keep (s := s) rfl (fun o stands => ?_) offers
    rcases held with same | ⟨req, reg, waits, _⟩
    · subst same
      exact stands
    · exact stands_restage (s := s) ⟨rfl, rfl⟩ (fun _ => not_refused_of_waits waits) stands
  | take empty _ _ _ _ =>
    exact offersSound_keep (s := s) rfl
      (fun _ stands => stands_restage (s := s) ⟨rfl, rfl⟩ (fun _ => by simp [empty]) stands) offers
  | refuse k r may =>
    have fresh := not_refused_of_refusable may
    refine offersSound_add (s := s) rfl (fun _ stands => stands_restage (s := s) ⟨rfl, rfl⟩ (fun _ => fresh) stands)
      (by simp) (fun o made => ?_) offers
    rw [List.mem_singleton.mp made]
    exact ⟨⟨_, _, k, r, rfl, rfl⟩, fun x => not_stage_of_stands fresh⟩
  | place h waits _ _ =>
    refine offersSound_keep (s := s) rfl (fun o stands => offerStands_mono (s := s) ?_ ?_ ?_ stands) offers
    · exact fun _ req reg k r refused => absurd refused (not_refused_of_waits waits req reg k r)
    · exact fun p _ g member pair expired => ⟨g, List.mem_append_left _ member, pair, expired⟩
    · exact fun n _ f c expiring => ⟨c, expiring⟩
  | send n f waits free _ =>
    refine offersSound_keep (s := s) rfl (fun o stands => ?_) offers
    have restaged : ({ s with stage := .empty } : State).offerStands o :=
      stands_restage (s := s) ⟨rfl, rfl⟩ (fun _ => not_refused_of_waits waits) stands
    exact stands_putAt (s := { s with stage := .empty }) ⟨rfl, rfl⟩ rfl (fun _ => by simp [free]) restaged
  | issue n f held free =>
    refine offersSound_keep (s := s) rfl (fun o stands => ?_) offers
    have issued : ({ s with table := putAt s.table n (.active f none) } : State).offerStands o :=
      stands_putAt (s := s) ⟨rfl, rfl⟩ rfl (fun _ => by simp [free]) stands
    refine stands_repool (s := { s with table := putAt s.table n (.active f none) }) ⟨rfl, rfl⟩ ?_ issued
    rintro p _ h member rfl expired
    exact expired_stays (by simp) held member expired
  | expireHeld p held =>
    refine offersSound_add (s := s) rfl (fun o stands => stands_repool (s := s) ⟨rfl, rfl⟩ ?_ stands) (by simp)
      (fun o made => ?_) offers
    · rintro q _ h member rfl expired
      exact expired_stays (by simp [Held.isWaiting]) held member expired
    · rw [List.mem_singleton.mp made]
      refine ⟨⟨?_, rfl⟩, fun x => not_held_of_waiting held tags⟩
      obtain ⟨before, h, after, _, _, pair, left⟩ :=
        leaveQueue_hit (stay := fun h => [{ h with state := .expired }]) (by simp [Held.isWaiting]) held
      exact ⟨{ h with state := .expired }, by dsimp only; rw [left]; simp, pair, rfl⟩
  | expireEntry n f active =>
    have idle : ∀ g c, s.table[n] ≠ .expiring g c := by rw [active]; exact fun _ _ => Entry.noConfusion
    refine offersSound_add (s := s) rfl (fun o stands => stands_putAt (s := s) ⟨rfl, rfl⟩ rfl (fun _ => idle) stands)
      (by simp) (fun o made => ?_) offers
    rw [List.mem_singleton.mp made]
    exact ⟨⟨f, .timeout, by dsimp only; rw [putAt_get, if_pos rfl], rfl⟩, fun x => not_inflight_of_idle idle⟩
  | acceptStage split =>
    refine offersSound_accept (s := s) split rfl (fun o other stands => ?_) offers
    exact stands_restage (s := s) ⟨rfl, rfl⟩ (fun own => absurd own other) stands
  | @acceptStale before after p e split =>
    refine offersSound_accept (s := s) split rfl (fun o other stands => stands_repool (s := s) ⟨rfl, rfl⟩ ?_ stands) offers
    intro q own h member pair expired
    have differs : h.pair ≠ p := fun same => other (by rw [own, ← pair, same])
    exact ⟨h, List.mem_filter.mpr ⟨member, by simp [differs]⟩, pair, expired⟩
  | acceptLost split =>
    refine offersSound_accept (s := s) split rfl (fun o other stands => ?_) offers
    exact stands_putAt (s := s) ⟨rfl, rfl⟩ rfl (fun own => absurd own other) stands
  | respond l r active _ _ =>
    exact offersSound_keep (s := s) rfl
      (fun o stands => stands_putAt (s := s) ⟨rfl, rfl⟩ rfl (fun _ => by simp [active]) stands) offers
  | @respondLate n f l r _ _ _ =>
    obtain ⟨standing, once⟩ := offers
    refine ⟨fun o member => ?_, once.sublist (List.filter_sublist.map _)⟩
    obtain ⟨old, other⟩ := List.mem_filter.mp member
    exact stands_putAt (s := s) ⟨rfl, rfl⟩ rfl (fun own => by simp [own] at other) (standing o old)
  | release quarantined =>
    exact offersSound_keep (s := s) rfl
      (fun o stands => stands_putAt (s := s) ⟨rfl, rfl⟩ rfl (fun _ => by simp [quarantined]) stands) offers
  | deliver _ held =>
    exact offersSound_keep (s := s) rfl
      (fun o stands => stands_putAt (s := s) ⟨rfl, rfl⟩ rfl (fun _ => by simp [held]) stands) offers
  | answer => exact offersSound_keep (s := s) rfl (fun _ => id) offers
  | cut =>
    refine offersSound_add (s := s) rfl (fun o stands => offerStands_mono (s := s) ?_ ?_ ?_ stands)
      (drstOffers_offerers_nodup s) (fun o made => ?_) offers
    · exact fun _ _ _ _ _ refused => refused
    · exact fun p _ h member pair expired => ⟨h, member, pair, expired⟩
    · exact fun n _ f c expiring => ⟨.dreset, by dsimp only; rw [mapAll_get, expiring]; rfl⟩
    · obtain ⟨n, f, l, active, rfl⟩ := mem_drstOffers.mp made
      refine ⟨⟨f, .dreset, by dsimp only; rw [mapAll_get, active]; rfl, rfl⟩, fun x => not_inflight_of_idle ?_⟩
      rw [active]
      exact fun _ _ => Entry.noConfusion
  | clear _ _ _ none_offered _ _ _ _ =>
    rw [State.OffersSound, none_offered]
    exact ⟨fun o member => absurd member List.not_mem_nil, List.nodup_nil⟩

theorem Move.tagged (move : Move s t) (sound : Tagged s) : Tagged t :=
  ⟨move.tagsSound sound, move.offersSound sound, move.registeredWait sound⟩

end

/-- Settles O57: each move keeps the tag map equal to the pairs of the residents, and every waiting offer with the transaction
that waits for it. -/
theorem tagMapInvariant : Obligations.TagMapInvariant := fun _ _ tags offers wait stepped => by
  obtain ⟨tags, offers, wait⟩ := (step_kept stepped).moves.keeps Move.tagged ⟨tags, offers, wait⟩
  exact ⟨tags, offers, wait⟩

end Sys2Proof.Machine.TrafficMoves

/-! The entry stage: what a refusal, an offer and its acceptance do (R14, R21, R22), and what the taking of a request, its
repeated tests and its stall timer do (R6 to R9, R12, R15, R17). -/

namespace Sys2Proof.Machine.EntryStage

open StreamAccounts (next_event)
open HoldPool (next_event_of_eq usedIn_eq_length)

section
variable {s : State}

/-! ### Refusals (R14) -/

/-! ### Offers and their acceptance (R21, R22) -/

/-- The acceptance of the LOST offer of an entry that timed out (R107). -/
theorem acceptLost_timeout {n : EntryId} {f : Flight} (entry : s.table[n] = .expiring f .timeout) : acceptLost n s =
    checkDrained (raiseGlobal .lost (countTo f.stream Acc.lost
      { s with table := putAt s.table n (.quarantined f .timeout) })) := by
  unfold acceptLost
  rw [entry]

/-- The acceptance of the LOST offer of an entry that DRST# cut off (R111). -/
theorem acceptLost_dreset {n : EntryId} {f : Flight} (entry : s.table[n] = .expiring f .dreset) : acceptLost n s =
    checkDrained (raiseGlobal .lost (countTo f.stream Acc.lost { s with table := putAt s.table n .free })) := by
  unfold acceptLost
  rw [entry]

/-- The peak of a stream after a change of the pool (R86). -/
theorem notePeaks_acc (before after : List Held) (m : Monitor) (k : StreamId) : (notePeaks before after m).acc[k] =
    if usedIn before k = usedIn after k then m.acc[k] else m.acc[k].offerPeak (usedIn before k) (usedIn after k) := by
  unfold notePeaks
  dsimp only
  rw [mapAll_get]

theorem acceptOldest_full (full : s.offers = [] ∨ ¬ s.localList.length < Config.listPlaces) : acceptOldest s = s := by
  rcases offers : s.offers with _ | ⟨o, rest⟩
  · exact acceptOldest_none offers
  · have noPlace : ¬ s.localList.length < Config.listPlaces := full.resolve_left (by simp [offers])
    simp [acceptOldest, offers, noPlace]

/-! ### WAIT_SLOT (R12) -/

section
variable {req : Request} {reg : Bool} {k : StreamId} {start : Nat}

theorem retestSlot_ok (waits : s.stage = .waitSlot req reg k start) (ok : s.placementOk k = true) :
    retestSlot s = place req k s := by
  simp only [retestSlot, waits, ok, if_true]

theorem retestSlot_notOk (waits : s.stage = .waitSlot req reg k start) (notOk : s.placementOk k = false) :
    retestSlot s = s := by
  simp [retestSlot, waits, notOk]

theorem stallDue_iff (waits : s.stage = .waitSlot req reg k start) :
    s.stallDue 0 = true ↔ start + s.settings.stallTimeout.toNat * 100 ≤ s.now := by
  simp [State.stallDue, waits, Config.usTicks]

theorem expireStall_due (waits : s.stage = .waitSlot req reg k start)
    (due : start + s.settings.stallTimeout.toNat * 100 ≤ s.now) : expireStall s = refuse req reg .full (some k) s := by
  simp only [expireStall, waits, (stallDue_iff waits).mpr due, if_true]

theorem expireStall_early (waits : s.stage = .waitSlot req reg k start)
    (early : s.now < start + s.settings.stallTimeout.toNat * 100) : expireStall s = s := by
  have notDue : ¬ s.stallDue 0 = true := mt (stallDue_iff waits).mp (Nat.not_le.mpr early)
  simp [expireStall, waits, notDue]

end

/-- With no request in WAIT_SLOT neither the repeated test nor the stall timer does anything. -/
theorem waitSlot_absent (other : ∀ req reg k start, s.stage ≠ .waitSlot req reg k start) :
    retestSlot s = s ∧ expireStall s = s := by
  unfold retestSlot expireStall
  cases stage : s.stage with
  | waitSlot req reg k start => exact absurd stage (other req reg k start)
  | empty | waitRefusal | waitDrain | waitIssue => exact ⟨rfl, rfl⟩

/-! ### The checks of a request that is taken (R6 to R9, R15, R17) -/

/-- A request is taken: its pair joins the tag map unless it stands there (R6, R18). -/
theorem takeRequest_taken (req : Request) (can : s.CanTake) : takeRequest req s =
    checkRequest req (decide (pairOf req ∉ s.tagMap))
      (if decide (pairOf req ∉ s.tagMap) then { s with tagMap := s.tagMap ++ [pairOf req] } else s) := by
  obtain ⟨_, open_, empty⟩ := can
  unfold takeRequest
  rw [if_neg (by simp [open_, empty])]
  by_cases known : pairOf req ∈ s.tagMap <;> simp [known]

/-- A request that is held off stays offered (R6). -/
theorem takeRequest_heldOff (req : Request) (off : s.pins.urst = true ∨ s.stage ≠ .empty) : takeRequest req s = s :=
  if_pos off

theorem checkRequest_malformed {req : Request} (reg : Bool) (bad : malformed req = true) :
    checkRequest req reg s = refuse req reg .span none s := if_pos bad

theorem checkRequest_duplicate {req : Request} (wf : malformed req = false) :
    checkRequest req false s = refuse req false .duplicate none s := by simp [checkRequest, wf]

section
variable {req : Request} (wf : malformed req = false)
include wf

theorem checkRequest_regulate (regime : s.cfg.regime = .regulate) : checkRequest req true s = regulatedChecks req true s := by
  simp [checkRequest, wf, regime]

theorem checkRequest_pass (regime : s.cfg.regime = .pass) : checkRequest req true s = passPath req true s := by
  simp [checkRequest, wf, regime]

theorem checkRequest_draining (regime : s.cfg.regime = .draining) :
    checkRequest req true s = { s with stage := .waitDrain req true } := by
  simp [checkRequest, wf, regime]

end

/-- The last three checks of R7, in their order. -/
theorem regulatedChecks_eq (req : Request) (reg : Bool) (s : State) : regulatedChecks req reg s =
    let k := (classify s.cfg.active req).1
    if (classify s.cfg.active req).2 = false then refuse req reg .window (some k) s
    else if s.cfg.streamState[k] = .retiring then refuse req reg .retired (some k) s
    else if s.placementOk k then place req k s
    else if (s.record k).overflow = 1 then refuse req reg .full (some k) s
    else raiseGlobal .pool { s with stage := .waitSlot req reg k s.now } := by
  simp only [regulatedChecks, policyRefuse, Bool.not_eq_true', beq_iff_eq]

/-- The malformed requests of R8. -/
theorem malformed_iff (req : Request) : malformed req = true ↔ ¬ (1 ≤ req.beats.val ∧ req.beats.val ≤ 16) ∨
    req.address.toNat % 16 ≠ 0 ∨ 4096 < req.address.toNat % 4096 + req.beats.val * 16 := by
  simp only [malformed, Bool.or_eq_true, Bool.not_eq_true', Bool.and_eq_false_iff, decide_eq_false_iff_not, decide_eq_true_eq,
    bne_iff_ne, not_and_or, or_assoc]
  rfl

/-! ### The requests outside REGULATE, and the ones held off (R6, R15, R17) -/

theorem passIssue_waits {req : Request} {reg : Bool} (waits : s.stage = .waitIssue req reg) (pass : s.cfg.regime = .pass) :
    passIssue s = passPath req reg s := by
  simp [passIssue, waits, pass]

/-- PASS_ISSUE without a request in WAIT_ISSUE, or outside PASS. -/
theorem passIssue_idle (idle : (∀ req reg, s.stage ≠ .waitIssue req reg) ∨ s.cfg.regime ≠ .pass) : passIssue s = s := by
  unfold passIssue
  cases stage : s.stage with
  | waitIssue req reg => simp [idle.resolve_left fun other => other req reg stage]
  | empty | waitSlot | waitRefusal | waitDrain => rfl

/-- PASS_ISSUE when the port or the table has no place. -/
theorem passIssue_blocked {req : Request} {reg : Bool} (waits : s.stage = .waitIssue req reg)
    (blocked : ¬ (s.cfg.regime = .pass ∧ s.CanIssue ∧ ∃ n : EntryId, s.table[n] = .free)) : passIssue s = s := by
  by_cases pass : s.cfg.regime = .pass
  · rw [passIssue_waits waits pass, passPath_waits fun open_ => blocked ⟨pass, open_⟩, ← waits]
  · exact passIssue_idle (.inr pass)

/-! ### The span check (R8) -/

/-- No SPAN is counted, and no SPAN refusal is listed or offered. -/
structure SpanKept (s t : State) : Prop where
  span : t.mon.span = s.mon.span
  list : ∀ e ∈ t.localList, e.outcome = .denied .span → e ∈ s.localList
  offers : ∀ o ∈ t.offers, o.entry.outcome = .denied .span → o ∈ s.offers

theorem SpanKept.of_frame {t : State} (frame : t.mon.span = s.mon.span ∧ t.localList = s.localList ∧ t.offers = s.offers) :
    SpanKept s t := by
  obtain ⟨span, list, offers⟩ := frame
  exact ⟨span, fun e member _ => list ▸ member, fun o member _ => offers ▸ member⟩

/-- A refusal for another reason. -/
theorem refuse_spanKept (req : Request) (reg : Bool) {r : Reason} (k : Option StreamId) (other : r ≠ .span) (s : State) :
    SpanKept s (refuse req reg r k s) := by
  have counted : (raiseRefusal r k (countRefusal r k s)).mon.span = s.mon.span := by
    cases r with
    | span => exact absurd rfl other
    | duplicate | window | full | stale | retired => simp [countRefusal]
  have named : ∀ e : LocalEntry, e = refusalEntry req reg r → e.outcome ≠ .denied .span := by
    rintro _ rfl outcome
    exact other (LocalOutcome.denied.inj outcome)
  unfold refuse makeOffer
  split
  · refine ⟨by simpa [acceptOffer_stage] using counted, fun e member outcome => ?_, fun o member _ => ?_⟩
    · rw [acceptOffer_stage] at member
      simp only [raiseRefusal_frame, countRefusal_frame, List.mem_append, List.mem_singleton] at member
      exact member.resolve_right fun refusal => named e refusal outcome
    · simpa [acceptOffer_stage] using member
  · refine ⟨counted, fun e member _ => ?_, fun o member outcome => ?_⟩
    · simpa using member
    · simp only [raiseRefusal_frame, countRefusal_frame, List.mem_append, List.mem_singleton] at member
      exact member.resolve_right fun refusal => named o.entry (by rw [refusal]; rfl) outcome

theorem regulatedChecks_spanKept (req : Request) (reg : Bool) (s : State) : SpanKept s (regulatedChecks req reg s) := by
  rcases regulatedChecks_cases req reg s with h | h | ⟨_, h⟩ | h | ⟨_, h⟩ <;> rw [h]
  · exact refuse_spanKept _ _ _ (by decide) s
  · exact refuse_spanKept _ _ _ (by decide) s
  · exact .of_frame (by simp)
  · exact refuse_spanKept _ _ _ (by decide) s
  · exact .of_frame (by simp)

/-- A well-formed request is not refused SPAN. -/
theorem checkRequest_spanKept {req : Request} (reg : Bool) (wf : malformed req = false) (s : State) :
    SpanKept s (checkRequest req reg s) := by
  cases reg with
  | false =>
    rw [checkRequest_duplicate wf]
    exact refuse_spanKept _ _ _ (by decide) s
  | true =>
    cases regime : s.cfg.regime with
    | regulate =>
      rw [checkRequest_regulate wf regime]
      exact regulatedChecks_spanKept _ _ s
    | pass =>
      rw [checkRequest_pass wf regime]
      exact .of_frame (by simp)
    | draining =>
      rw [checkRequest_draining wf regime]
      exact .of_frame ⟨rfl, rfl, rfl⟩

theorem takeRequest_spanKept {req : Request} (can : s.CanTake) (wf : malformed req = false) :
    SpanKept s (takeRequest req s) := by
  rw [takeRequest_taken req can]
  cases decide (pairOf req ∉ s.tagMap) with
  | false => exact checkRequest_spanKept false wf s
  | true =>
    obtain ⟨span, list, offers⟩ := checkRequest_spanKept true wf { s with tagMap := s.tagMap ++ [pairOf req] }
    exact ⟨span, list, offers⟩

end

/-! ### The statements -/

/-- Settles O10: a refusal counts, raises its causes and is offered, reason by reason. -/
theorem refusalDecision : Obligations.RefusalDecision := fun _ _ _ => ⟨rfl, rfl, fun _ => ⟨rfl, rfl, rfl⟩⟩

/-- Settles O14: what the makings, the acceptances and the counting of offers do, case by case. -/
theorem offersAndTheirAcceptance : Obligations.OffersAndTheirAcceptance := by
  refine ⟨fun o s => ⟨makeOffer_accepted, fun full => makeOffer_waits (Nat.not_lt.mpr full)⟩, fun e s => ⟨rfl, fun _ => rfl,
    fun n f entry => ?timeout, fun n f entry => ?dreset⟩, fun f s => ⟨rfl, fun _ => rfl⟩, fun _ _ => rfl,
    fun before after m => ⟨rfl, fun k => ?peak⟩, fun s running => ⟨fun o rest offers place => ?accepted, fun full => ?full⟩⟩
  case timeout => exact acceptLost_timeout (s := { s with localList := s.localList ++ [e] }) entry
  case dreset => exact acceptLost_dreset (s := { s with localList := s.localList ++ [e] }) entry
  case peak =>
    rw [notePeaks_acc, usedIn_eq_length, usedIn_eq_length]
    rfl
  case accepted => exact next_event_of_eq running (acceptOldest_some offers place)
  case full => exact next_event_of_eq running (acceptOldest_full (full.imp_right Nat.not_lt.mpr))

/-- Settles O13: the repeated placement test and the stall timer, each with its condition and without. -/
theorem waitSlotEvents : Obligations.WaitSlotEvents := by
  refine ⟨fun req reg k start s running waits => ⟨fun ok => ?_, fun notOk => ?_, fun due => ?_, fun early => ?_⟩,
    fun s running other => ?_, fun s running => next_event running _⟩
  · exact next_event_of_eq running (retestSlot_ok waits ok)
  · exact next_event_of_eq running (retestSlot_notOk waits notOk)
  · exact next_event_of_eq running (expireStall_due waits due)
  · exact next_event_of_eq running (expireStall_early waits early)
  · obtain ⟨untested, unexpired⟩ := waitSlot_absent other
    exact ⟨next_event_of_eq running untested, next_event_of_eq running unexpired⟩

/-- Settles O7: a known pair meets only the duplicate check. -/
theorem duplicateRefused : Obligations.DuplicateRefused := fun req s can wf known => by
  have dup : decide (pairOf req ∉ s.tagMap) = false := decide_eq_false (not_not_intro known)
  refine next_event_of_eq can.1 ?_
  rw [takeRequest_taken req can, dup, checkRequest_duplicate wf]
  rfl

/-- Settles O9: the span check, the duplicate check and the three checks of REGULATE, in their order. -/
theorem regulatedRequestChecks : Obligations.RegulatedRequestChecks := fun req s can regulate => by
  refine next_event_of_eq can.1 ?_
  rw [takeRequest_taken req can]
  cases wf : malformed req with
  | true => exact checkRequest_malformed _ wf
  | false =>
    cases fresh : decide (pairOf req ∉ s.tagMap) with
    | false => exact checkRequest_duplicate wf
    | true =>
      refine (checkRequest_regulate wf ?_).trans (regulatedChecks_eq _ _ _)
      exact regulate

/-- Settles O12: the PASS path and WAIT_DRAIN of a request that is taken, PASS_ISSUE, and a request that stays offered. -/
theorem unregulatedAndHeldOffRequests : Obligations.UnregulatedAndHeldOffRequests := by
  refine ⟨fun req s can wf new => ?taken, fun req s running off => next_event_of_eq running (takeRequest_heldOff req off),
    fun req reg s waits => ⟨fun pass issue n lowest => ?issues, fun running blocked => ?blocked⟩,
    fun s running other => next_event_of_eq running (passIssue_idle (.inl other))⟩
  case taken =>
    have taken := takeRequest_taken req can
    rw [decide_eq_true new, if_pos rfl] at taken
    obtain ⟨running, _, empty⟩ := can
    refine ⟨fun pass issue n lowest => next_event_of_eq running ?_, fun pass blocked => next_event_of_eq running ?_,
      fun draining => next_event_of_eq running ?_⟩
    · have stays : ({ s with tagMap := s.tagMap ++ [pairOf req], stage := .empty } : State) =
          { s with tagMap := s.tagMap ++ [pairOf req] } := by rw [← empty]
      rw [taken, checkRequest_pass wf (by exact pass), passPath_issues (by exact issue) (by exact lowest), stays]
    · rw [taken, checkRequest_pass wf (by exact pass), passPath_waits (by exact blocked)]
    · rw [taken, checkRequest_draining wf (by exact draining)]
  case issues =>
    exact next_event_of_eq issue.1 ((passIssue_waits waits pass).trans (passPath_issues issue lowest))
  case blocked => exact next_event_of_eq running (passIssue_blocked waits blocked)

/-- Settles O6: the span check is the first, in every regime, and the only one that refuses SPAN. -/
theorem spanCheck : Obligations.SpanCheck := fun req s can => by
  refine ⟨malformed_iff req, fun bad => next_event_of_eq can.1 ?_, fun good => ⟨_, next_event can.1 _, ?_⟩⟩
  · rw [takeRequest_taken req can, checkRequest_malformed _ ((malformed_iff req).mpr bad)]
    cases decide (pairOf req ∉ s.tagMap) <;> rfl
  · have wf : malformed req = false := Bool.eq_false_iff.mpr (mt (malformed_iff req).mp good)
    obtain ⟨span, list, offers⟩ := takeRequest_spanKept can wf
    exact ⟨by simpa using span, by simpa using list, by simpa using offers⟩

end Sys2Proof.Machine.EntryStage

/-! The input levels and the reset inputs: what RESET# holds back (R25, R114, R197), the power-on state and its invariants (R177),
and what the assertion and the end of each reset do (R26 to R28, R111 to R113). -/

namespace Sys2Proof.Machine.ResetInputs

open StreamAccounts (starving_iff finish_account)

section
variable {s u : State}

/-! ### The input levels (R27, R92, R112) -/

/-- An event that quarantines nothing raises no QUARANTINE (R109). -/
theorem finish_unraised (same : u.quarantineHigh = s.quarantineHigh) : finish s u = markStarved u := by
  rw [finish, raiseQuarantine, same, Bool.not_and_self, if_neg Bool.false_ne_true]

/-- While RESET# is asserted no stream is starving: the port takes no request. -/
theorem markStarved_reset (reset : u.pins.reset = true) : markStarved u = u := by
  have calm (k : StreamId) : u.starving k = false := Bool.eq_false_iff.mpr fun starves => by
    obtain ⟨_, _, _, ⟨running, _⟩, _⟩ := (starving_iff u k).mp starves
    exact Bool.false_ne_true (running.symm.trans reset)
  simp only [markStarved, calm, Bool.false_eq_true, if_false, MeasurementEpochs.mapAll_same]

/-- A level that moves while RESET# is asserted moves alone. -/
theorem finish_reset (reset : u.pins.reset = true) (same : u.quarantineHigh = s.quarantineHigh) : finish s u = u := by
  rw [finish_unraised same, markStarved_reset reset]

/-- A level that moves marks the streams that starve, and no more. -/
theorem finish_level (same : u.quarantineHigh = s.quarantineHigh) : ∃ accounts : Vector Account 16,
    (Host.Outcome.next (finish s u) : Host.Outcome State Fault Refusal) = .next { u with accounts := accounts } ∧
      ∀ k : StreamId, accounts[k] = if u.starving k then { u.accounts[k] with starved := true } else u.accounts[k] := by
  refine ⟨(finish s u).accounts, ?_, finish_account s u⟩
  rw [finish_unraised same]
  rfl

end

/-- Settles O27: each level moves alone, but that the streams which may now be granted are marked. -/
theorem inputLevels : Obligations.InputLevels := fun s =>
  ⟨rfl, finish_level (s := s) (u := { s with pins := { s.pins with drst := false } }) rfl,
    fun ready => finish_level (s := s) (u := { s with pins := { s.pins with downReady := ready } }) rfl⟩

/-! ### What RESET# holds back (R25, R114, R197) -/

/-- Settles O4: events and link bytes wait for the end of RESET#, and the other levels move alone. -/
theorem resetHoldsTheDevice : Obligations.ResetHoldsTheDevice := fun c s reset => by
  have nothing (f : State → State) : (Host.Outcome.next (event f s) : Host.Outcome State Fault Refusal) = .next s := by
    rw [event_reset reset]
  have silent (f : State → State) : (Host.Outcome.next (whileRunning f s) : Host.Outcome State Fault Refusal) = .next s := by
    rw [whileRunning_reset reset]
  cases c with
  | resetAssert | resetDeassert => trivial
  | urstAssert | drstAssert => exact congrArg Host.Outcome.next (if_pos reset)
  | urstDeassert => exact rfl
  | drstDeassert =>
    exact congrArg Host.Outcome.next (finish_reset (s := s) (u := { s with pins := { s.pins with drst := false } }) reset rfl)
  | downstreamPortReady ready =>
    exact congrArg Host.Outcome.next
      (finish_reset (s := s) (u := { s with pins := { s.pins with downReady := ready } }) reset rfl)
  | requestTaken | placement | passIssue | issue | responseArrival | responseDelivered | offerAccepted | stallTimeout
  | holdTimeout | responseTimeout | refillTick | publication | adjustment | commitEvent | poolEmpty
  | retirementCompletion => exact nothing _
  | transferStart | writeByte | readByte | transferEnd | sclTimeout | commit | revert | ack | retire | restart | cancel
  | unknownCode | stagedWrite | maskWrite | alertHoldWrite | fieldWrite => exact silent _

/-! ### The power-on state (R25, R43, R44, R176, R177) -/

/-- Settles O60: nothing is resident, no limit is used, and the configuration is that of power-on. -/
theorem resetMeetsTheInvariants : Obligations.ResetMeetsTheInvariants := by
  obtain ⟨config, streams⟩ := StreamAccounts.configured_powerOn (s := State.reset) rfl
  have rates : State.reset.RatesSound := (RateGovernor.assertReset_bounded State.reset).2
  have unheld : State.reset.HeldResponseSound := fun n t l held => by simp [State.reset, State.powerOn] at held
  exact ⟨fun _ => rfl, ⟨by decide, fun waiting => absurd rfl waiting⟩, config, streams, ⟨trivial, by decide⟩, by decide, trivial,
    HoldPool.SlotsFit.nil _, ⟨fun _ => rfl, by decide, trivial⟩, rates, LevelStatus.levelsSound_of_clear rfl rfl,
    ⟨by decide, List.nodup_nil⟩, ⟨fun o member => absurd member List.not_mem_nil, List.nodup_nil⟩, trivial,
    StreamAccounts.starvedSound_of_regime rfl, unheld⟩

theorem powerOn_stream (k : StreamId) : Settings.powerOn.streams[k] = StreamRecord.powerOn k := by
  simp [Settings.powerOn]

theorem powerOn_window (n : WindowId) : Settings.powerOn.windows[n] = WindowEntry.powerOn := by
  simp [Settings.powerOn]

theorem powerOn_streamState (k : StreamId) : CfgUnit.powerOn.streamState[k] = if k = 0 then .on else .off := by
  simp [CfgUnit.powerOn]

/-- Settles O36: the assertion gives the power-on state, and the deassertion starts the timers and the rates. -/
theorem deviceReset : Obligations.DeviceReset := by
  refine ⟨fun s => ⟨assertReset s, rfl, rfl, rfl, rfl, rfl, rfl, rfl, rfl, rfl, rfl, rfl,
    fun n => Vector.getElem_replicate n.isLt, rfl, fun k => ?_, fun n => ⟨powerOn_window n, powerOn_window n⟩,
    rfl, rfl, rfl, rfl, rfl, rfl, rfl, rfl, rfl, rfl, rfl, rfl, rfl, rfl, rfl, rfl, rfl, rfl, rfl, rfl, rfl, rfl, rfl, rfl⟩,
    fun straps s running => ?_, fun straps s reset => ?_⟩
  · have fresh {α : Type} (x : α) : (Vector.replicate 16 x)[k] = x := Vector.getElem_replicate k.isLt
    exact ⟨fresh _, powerOn_streamState k, powerOn_stream k, powerOn_stream k, fresh _, fresh _, fresh _,
      fresh _, fresh _, fresh _, fresh _⟩
  · exact congrArg Host.Outcome.next (if_neg (by simp [running]))
  · refine ⟨mapAll s.gov.rate fun k _ => startRate (s.record k), congrArg Host.Outcome.next ?_, mapAll_get _ _⟩
    rw [deassertReset, if_pos reset]
    simp only [beginEpoch, Nat.zero_add]
    rfl

/-! ### URST# (R26, R113, R124) -/

/-- What URST# leaves before its two reports: the pool is emptied last, so the peaks take the occupancy before it (R86). -/
def purged (s : State) : State :=
  setPool [] { countDrains s with
    pins := { s.pins with urst := true }
    stage := .empty
    tagMap := []
    localList := []
    offers := []
    preferred := .downstream
    table := mapAll s.table fun _ e => urstEntry e
    downResp := none
    mon := { (countDrains s).mon with discard := raiseCount (countDrains s).mon.discard s.urstDiscards } }

theorem purge_eq (s : State) : purge s = checkDrained (checkPoolEmpty (purged s)) := rfl

/-- The counted reset drains (R113): they move the counts only. -/
theorem countDrains_changes (s : State) : countDrains s = { s with mon := { s.mon with
    acc := (countDrains s).mon.acc, gacc := (countDrains s).mon.gacc } } := (foldl_drain _ s).1

theorem purged_changes (s : State) : purged s = { s with
    pins := { s.pins with urst := true }
    stage := .empty
    tagMap := []
    localList := []
    offers := []
    preferred := .downstream
    pool := []
    table := (purged s).table
    downResp := none
    mon := { s.mon with acc := (purged s).mon.acc, gacc := (purged s).mon.gacc, discard := (purged s).mon.discard } } := by
  unfold purged
  rw [countDrains_changes]
  rfl

/-- The number of held responses whose transactions pass a test (R113). -/
def heldCount (s : State) (counts : Flight → Bool) : Nat :=
  (allEntries.filter fun n => match s.table[n] with
    | .active f (some _) => counts f
    | _ => false).length

theorem heldCount_eq (s : State) (counts : Flight → Bool) :
    ((allEntries.filterMap fun n => s.table[n].heldResponse).filter counts).length = heldCount s counts :=
  heldResponses_filter s counts

theorem countDrains_acc (s : State) (k : StreamId) : (countDrains s).mon.acc[k] =
    { s.mon.acc[k] with counts := { s.mon.acc[k].counts with
      drain := raisedBy s.mon.acc[k].counts.drain (heldCount s fun f => f.stream == some k) } } := by
  rw [← heldCount_eq]
  exact (foldl_drain (allEntries.filterMap fun n => s.table[n].heldResponse) s).2.1 k

theorem countDrains_gacc (s : State) : (countDrains s).mon.gacc =
    { s.mon.gacc with counts := { s.mon.gacc.counts with
      drain := raisedBy s.mon.gacc.counts.drain (heldCount s fun _ => true) } } := by
  rw [← heldCount_eq, List.filter_true]
  exact (foldl_drain (allEntries.filterMap fun n => s.table[n].heldResponse) s).2.2

theorem urstDiscards_eq (s : State) : s.urstDiscards = (if s.stage = .empty then 0 else 1) + s.localList.length +
    s.pool.length + (allEntries.filter fun n => (s.table[n].resident).isSome).length := by
  rw [State.urstDiscards, List.countP_eq_length_filter]

/-- A peak that takes the occupancy before a pool is emptied (R86). -/
theorem offerPeak_emptied (n : Nat) (a : Acc) : (if n = 0 then a else a.offerPeak n 0) =
    { a with counts := { a.counts with peak := if n = 0 then a.counts.peak else max a.counts.peak n } } := by
  split
  · rfl
  · rw [Acc.offerPeak, Nat.max_zero]

theorem purged_acc (s : State) (k : StreamId) : (purged s).mon.acc[k] =
    { (countDrains s).mon.acc[k] with counts := { (countDrains s).mon.acc[k].counts with
      peak := if s.used k = 0 then (countDrains s).mon.acc[k].counts.peak
        else max (countDrains s).mon.acc[k].counts.peak (s.used k) } } := by
  have pool : (countDrains s).pool = s.pool := by rw [countDrains_changes]
  rw [purged, setPool_acc]
  dsimp only
  rw [pool, ← offerPeak_emptied]
  rfl

theorem purged_gacc (s : State) : (purged s).mon.gacc =
    { (countDrains s).mon.gacc with counts := { (countDrains s).mon.gacc.counts with
      peak := if s.pool = [] then (countDrains s).mon.gacc.counts.peak
        else max (countDrains s).mon.gacc.counts.peak s.pool.length } } := by
  have pool : (countDrains s).pool = s.pool := by rw [countDrains_changes]
  rw [purged, setPool_gacc]
  simp only [← List.length_eq_zero_iff (l := s.pool), pool]
  rw [← offerPeak_emptied]
  rfl

/-- Settles O37: the drains, the peaks and the discards of URST#, and what it makes of the traffic. -/
theorem upstreamReset : Obligations.UpstreamReset := fun s running => by
  refine ⟨purged s, congrArg Host.Outcome.next (if_neg (by simp [running])), purged_changes s, fun n => ?_, ?_, fun k => ?_, ?_⟩
  · rw [show (purged s).table = mapAll s.table fun _ e => urstEntry e from rfl, mapAll_get]
    cases s.table[n] with
    | active f held => cases held <;> rfl
    | expiring f cause => cases cause <;> rfl
    | free | quarantined => rfl
  · have discard : (purged s).mon.discard = raiseCount s.mon.discard s.urstDiscards := by
      simp only [purged, setPool_frame]
      rw [countDrains_changes]
    rw [discard, urstDiscards_eq]
    rfl
  · rw [purged_acc, countDrains_acc]
    rfl
  · rw [purged_gacc, countDrains_gacc]
    rfl

/-! ### DRST# (R28, R111) -/

/-- The ACTIVE entries, in ascending number. -/
def activeEntries (s : State) : List EntryId := allEntries.filter fun n => match s.table[n] with
  | .active _ _ => true
  | .free | .expiring _ _ | .quarantined _ _ => false

theorem mem_activeEntries {s : State} (n : EntryId) : n ∈ activeEntries s ↔ ∃ f l, s.table[n] = .active f l := by
  rw [activeEntries, allEntries, List.mem_filter]
  cases s.table[n] <;> simp [List.mem_finRange]

/-- The offers of DRST# are those of the ACTIVE entries. -/
theorem drstOffers_eq (s : State) : drstOffers s = (activeEntries s).filterMap fun n => match s.table[n] with
    | .active f _ => some { offerer := .inflight n, entry := { pair := f.pair, outcome := .lost, registered := true } }
    | _ => none := by
  rw [drstOffers, activeEntries, List.filterMap_filter]
  refine List.filterMap_congr fun n _ => ?_
  cases s.table[n] <;> rfl

/-- Settles O38: the entries change, and the ACTIVE ones are offered LOST in ascending number. -/
theorem downstreamReset : Obligations.DownstreamReset := fun s running => by
  refine ⟨mapAll s.table fun _ e => drstEntry e, activeEntries s, ?_, fun n => ?_,
    (List.pairwise_lt_finRange 48).filter _, mem_activeEntries⟩
  · refine congrArg Host.Outcome.next ((if_neg (by simp [running])).trans (congrArg (finish s) ?_))
    exact congrArg (List.foldl (fun u o => makeOffer o u) _) (drstOffers_eq s)
  · rw [mapAll_get]
    cases s.table[n] <;> rfl

end Sys2Proof.Machine.ResetInputs

/-! The upstream response channel (R4, R19 to R23, R102): what the delivery of each source does. -/

namespace Sys2Proof.Machine.UpstreamDelivery

open HoldPool (next_event_of_eq)

section
variable {s : State}

/-! ### The choice of the source (R23) -/

theorem deliverResponse_held (held : s.pins.urst = true ∨ (s.downResp = none ∧ s.localList = [])) :
    deliverResponse s = s := by
  rcases held with urst | ⟨noResponse, noEntry⟩
  · simp [deliverResponse, urst]
  · simp [deliverResponse, noResponse, noEntry]

theorem deliverResponse_downstream {r : OfferedResponse} (urst : s.pins.urst = false) (offered : s.downResp = some r)
    (chosen : s.localList = [] ∨ s.preferred = .downstream) : deliverResponse s = deliverDownstream r s := by
  rw [deliverResponse, urst, if_neg Bool.false_ne_true, offered]
  cases list : s.localList with
  | nil => rfl
  | cons e rest => rw [chosen.resolve_left (by simp [list])]

theorem deliverResponse_local {e : LocalEntry} {rest : List LocalEntry} (urst : s.pins.urst = false)
    (head : s.localList = e :: rest) (chosen : s.downResp = none ∨ s.preferred = .local) :
    deliverResponse s = deliverLocal e rest s := by
  rw [deliverResponse, urst, if_neg Bool.false_ne_true, head]
  cases offered : s.downResp with
  | none => rfl
  | some r => rw [chosen.resolve_left (by simp [offered])]

/-! ### The downstream source (R102) -/

theorem deliverDownstream_active {r : OfferedResponse} {t : Flight} {latency : Nat}
    (held : s.table[r.entry] = .active t (some latency)) : deliverDownstream r s =
      checkDrained (countTo t.stream (Acc.completion latency r.outcome) (dropPair t.pair
        (sendUp (downstreamResponse t r)
          { s with table := putAt s.table r.entry .free, downResp := none, preferred := .local }))) := by
  unfold deliverDownstream
  rw [held]

/-- The upstream response of a memory response (R3, R4). -/
theorem downstreamResponse_eq (t : Flight) (r : OfferedResponse) : downstreamResponse t r =
    { pair := t.pair
      outcome := if r.outcome = .memfault then .memfault else .okay
      data := if t.kind = .read ∧ r.outcome = .okay then some r.data else none } := by
  unfold downstreamResponse
  cases r.outcome with
  | okay => cases t.kind <;> rfl
  | memfault => cases t.kind <;> rfl

/-- The count of a completion (R122). -/
theorem completion_eq (latency : Nat) (outcome : MemOutcome) (a : Acc) : Acc.completion latency outcome a =
    { counts := { a.counts with
        completions := min 4294967295 (a.counts.completions + 1)
        latencyMax := max a.counts.latencyMax latency
        memfaults := if outcome = .memfault then min 4294967295 (a.counts.memfaults + 1) else a.counts.memfaults }
      latencySum := min (2 ^ 48 - 1) (a.latencySum + latency) } := by
  cases outcome <;> rfl

/-! ### The local source (R19 to R21) -/

/-- The delivery of the head of the local response list, before the place it frees is filled. -/
theorem deliverLocal_eq (e : LocalEntry) (rest : List LocalEntry) (s : State) : deliverLocal e rest s = acceptOldest { s with
    localList := rest
    preferred := .downstream
    tagMap := if e.registered then s.tagMap.filter (· ≠ e.pair) else s.tagMap
    ports := { s.ports with upSent := s.ports.upSent ++ [localResponse e] } } := by
  unfold deliverLocal
  cases e.registered <;> rfl

end

/-- Settles O16: the entry, the tag map, the counts and the preferred source after a downstream delivery. -/
theorem downstreamDelivery : Obligations.DownstreamDelivery := fun r t latency s running urst offered held chosen => by
  refine next_event_of_eq running ?_
  rw [deliverResponse_downstream urst offered chosen, deliverDownstream_active held, downstreamResponse_eq,
    show Acc.completion latency r.outcome = _ from funext (completion_eq latency r.outcome)]
  rfl

/-- Settles O17: the head goes upstream, and the oldest waiting offer takes its place. -/
theorem localDelivery : Obligations.LocalDelivery := by
  refine ⟨fun e rest s running urst head chosen => ?_, fun s running held => next_event_of_eq running (deliverResponse_held held)⟩
  have delivered := (deliverResponse_local urst head chosen).trans (deliverLocal_eq e rest s)
  exact ⟨fun none_waits => next_event_of_eq running (delivered.trans (acceptOldest_none none_waits)),
    fun o os waits place => next_event_of_eq running (delivered.trans (acceptOldest_some waits place))⟩

end Sys2Proof.Machine.UpstreamDelivery

/-! The device by itself (R116, log 2): the event that is due, condition by condition, and the tick of the time base. -/

namespace Sys2Proof.Machine.IdleDevice

open HoldPool (drained_iff)

theorem nonempty_eq {α : Type} [DecidableEq α] (l : List α) : (!l.isEmpty) = decide (l ≠ []) := by
  cases l <;> simp

section
variable (s : State)

/-! ### The conditions of the events that follow at once (R12, R15, R21, R82, R84, R92) -/

theorem canIssue_eq : (s.portOpen && s.firstFree.isSome) = decide (s.CanIssue ∧ ∃ n : EntryId, s.table[n] = .free) := by
  rw [Bool.eq_iff_iff, Bool.and_eq_true, portOpen_iff, StreamAccounts.firstFree_isSome_iff, decide_eq_true_eq]

theorem offerReady_eq : (!s.offers.isEmpty && decide (s.localList.length < Config.listPlaces)) =
    decide (s.offers ≠ [] ∧ s.localList.length < 8) := by
  rw [nonempty_eq]
  exact (Bool.decide_and _ _).symm

theorem slotReady_eq : s.slotReady = match s.stage with
    | .waitSlot _ _ k _ => s.placementOk k
    | _ => false := by
  unfold State.slotReady
  cases s.stage <;> rfl

theorem poolEmptyReady_eq : (s.cfg.regime == .draining && s.pool.isEmpty) = decide (s.cfg.regime = .draining ∧ s.pool = []) := by
  rw [Bool.eq_iff_iff]
  simp

/-- A stream is drained (R84). -/
theorem drained_eq (k : StreamId) : s.drained k = (decide (s.used k = 0) && (List.finRange 48).all fun n => match s.table[n] with
    | .active f _ => decide (f.stream ≠ some k)
    | .expiring f _ => decide (f.stream ≠ some k)
    | _ => true) := by
  rw [Bool.eq_iff_iff, drained_iff, Bool.and_eq_true, decide_eq_true_eq, List.all_eq_true]
  simp only [List.mem_finRange, forall_const]
  refine and_congr_right fun _ => forall_congr' fun n => ?_
  cases s.table[n] <;> simp [Entry.resident]

theorem drainReady_eq : s.drainReady = (s.pendingCode 0x04 &&
    match (List.finRange 16).find? fun k => decide (s.cfg.streamState[k] = .retiring) with
    | some k => s.drained k
    | none => false) := by
  unfold State.drainReady State.retiringStream
  cases s.pendingCode 0x04 with
  | false => rfl
  | true => rfl

theorem passReady_eq : s.passReady = match s.stage with
    | .waitIssue _ _ => decide (s.cfg.regime = .pass) && decide (s.CanIssue ∧ ∃ n : EntryId, s.table[n] = .free)
    | _ => false := by
  rw [← canIssue_eq]
  unfold State.passReady
  cases s.stage with
  | waitIssue => exact Bool.and_assoc _ _ _
  | empty | waitSlot | waitRefusal | waitDrain => rfl

theorem grantReady_eq : s.grantReady = (decide (s.CanIssue ∧ ∃ n : EntryId, s.table[n] = .free) && s.grant.isSome) := by
  rw [← canIssue_eq, State.grantReady]

/-! ### The timers (R50, R72, R105, R117) -/

theorem stallLate_eq : s.stallDue Config.timeoutSlack = match s.stage with
    | .waitSlot _ _ _ start => decide (start + s.settings.stallTimeout.toNat * 100 + 100 ≤ s.now)
    | _ => false := by
  unfold State.stallDue
  cases s.stage <;> rfl

theorem lateHolds_eq : lateHolds s Config.timeoutSlack = (s.pool.filter fun h => decide (h.state = .waiting ∧
    (s.record h.stream).holdLimit.toNat ≠ 0 ∧
      h.placedAt + (s.record h.stream).holdLimit.toNat * 100 + 100 ≤ s.now)).map fun h => h.pair := by
  refine congrArg (List.map Held.pair) (List.filter_congr fun h _ => ?_)
  rw [Bool.eq_iff_iff]
  simp only [State.holdDue, Held.isWaiting, Bool.and_eq_true, beq_iff_eq, bne_iff_ne, decide_eq_true_eq, and_assoc]
  rfl

theorem lateResponses_eq : lateResponses s Config.timeoutSlack = (List.finRange 48).filter fun n => match s.table[n] with
    | .active f none => decide (f.issueTime + s.settings.responseTimeout.toNat * 100 + 100 ≤ s.now)
    | _ => false := by
  refine List.filter_congr fun n _ => ?_
  unfold State.responseDue
  cases s.table[n] with
  | active f held => cases held <;> rfl
  | free | expiring | quarantined => rfl

end

/-- Settles O3: on an empty queue the device takes the first event of the list that is due, or lets 10 ns pass. -/
theorem idleDeviceRuns : Obligations.IdleDeviceRuns := by
  refine ⟨fun s empty => ⟨fun reset => ?_, fun c due => ?_, fun running none_due => ?_⟩, fun s => ?_⟩
  · simp [step, empty, idle, dueEvent, reset]
  · simp [step, empty, idle, due]
  · simp [step, empty, idle, none_due, running, tick]
  · dsimp only [dueEvent, firstDue, atOnce, timersDue, List.cons_append, List.nil_append]
    rw [offerReady_eq, slotReady_eq, poolEmptyReady_eq, drainReady_eq, passReady_eq, grantReady_eq, stallLate_eq, lateHolds_eq,
      lateResponses_eq, nonempty_eq, nonempty_eq]
    simp only [drained_eq] <;> rfl

end Sys2Proof.Machine.IdleDevice

/-! RETIRE (R13, R84, R181, R190): its checks, the stream that becomes RETIRING, and the request that it refuses. -/

namespace Sys2Proof.Machine.Retirement

section
variable {s : State} {k : StreamId}

theorem exec_retire_taken (running : s.Running) (idle : s.cfg.slot.state ≠ .pending) :
    exec .retire s = .next (actRetire (takeCode 0x04 s)) :=
  congrArg Host.Outcome.next ((whileRunning_running running).trans (AlarmStatus.arriveAs_idle 0x04 actRetire idle))

/-- An argument above 15 names no stream (R190). -/
theorem actRetire_unnamed (above : 15 < (s.arg 0).toNat) : actRetire s = finishCommand .refused .badArg .none s :=
  dif_neg (Nat.not_lt.mpr above)

/-- The checks on the stream that the argument names, and the retirement that begins (R190). -/
theorem actRetire_named (named : k.val = (s.arg 0).toNat) : actRetire s =
    if s.cfg.streamState[k] ≠ .on then finishCommand .refused .badArg .none s
    else if s.cfg.regime ≠ .regulate then finishCommand .refused .wrongRegime .none s
    else checkDrained (refuseRetired k (becomePending (startRetiring k s))) := by
  obtain ⟨i, inside⟩ := k
  change i = _ at named
  subst named
  exact dif_pos inside

theorem refuseRetired_waits {req : Request} {reg : Bool} {start : Nat} (waits : s.stage = .waitSlot req reg k start) :
    refuseRetired k s = refuse req reg .retired (some k) s := by
  simp [refuseRetired, waits]

theorem refuseRetired_other (other : ∀ req reg start, s.stage ≠ .waitSlot req reg k start) : refuseRetired k s = s := by
  unfold refuseRetired
  cases stage : s.stage with
  | waitSlot req reg j start =>
    have differs : j ≠ k := fun same => other req reg start (same ▸ stage)
    simp [differs]
  | empty | waitRefusal | waitDrain | waitIssue => rfl

end

/-- Settles O45: the checks of RETIRE in their order, and the retirement that begins. -/
theorem retireTaken : Obligations.RetireTaken := fun s running idle => by
  have taken := exec_retire_taken running idle
  refine ⟨fun above => taken.trans (congrArg Host.Outcome.next (actRetire_unnamed above)), fun k named => ?_⟩
  have checks := taken.trans (congrArg Host.Outcome.next (actRetire_named (s := takeCode 0x04 s) named))
  refine ⟨fun off => ?_, fun on outside => ?_, fun on regulate => ?_⟩
  · exact checks.trans (congrArg Host.Outcome.next (if_pos off))
  · exact checks.trans (congrArg Host.Outcome.next ((if_neg (not_not_intro on)).trans (if_pos outside)))
  · have begins := checks.trans (congrArg Host.Outcome.next
      ((if_neg (not_not_intro on)).trans (if_neg (not_not_intro regulate))))
    refine ⟨fun req reg start waits => begins.trans ?_, fun other => begins.trans ?_⟩
    · rw [refuseRetired_waits (s := becomePending (startRetiring k (takeCode 0x04 s))) waits]
      rfl
    · rw [refuseRetired_other (s := becomePending (startRetiring k (takeCode 0x04 s))) other]
      rfl

end Sys2Proof.Machine.Retirement

/-! The commit event (R185 to R187): the boundary checks and their refusals, the settings of an applied commit with its watches and
statuses, the request in the entry stage, and the expiries of the changed limits. -/

namespace Sys2Proof.Machine.CommitEvent

open StreamAccounts (pendingCode_of_idle commitHolds_config commitTimeouts_config refuse_keeps foldl_keeps)
open HoldPool (next_event_of_eq)
open AlarmStatus (WatchItem hasCause_passWatch hasCause_passWatch_event hasCause_watchBits)
open TrafficMoves (committed applyCommit_eq committed_frame)

section
variable {s : State}

/-! ### The boundary checks (R186) -/

/-- A stream holds more slots than its staged max slots. -/
def tooMany (s : State) (k : StreamId) : Bool := s.cfg.staged.streams[k].maxSlots.toNat < s.used k

/-- A stream whose staged state request is OFF holds slots. -/
def busyOff (s : State) (k : StreamId) : Bool :=
  s.cfg.streamState[k] == .on && !requestsOn s.cfg.staged.streams[k] && 0 < s.used k

theorem tooMany_iff (k : StreamId) : tooMany s k = true ↔ s.cfg.staged.streams[k].maxSlots.toNat < s.used k :=
  decide_eq_true_iff

theorem busyOff_iff (k : StreamId) : busyOff s k = true ↔
    s.cfg.streamState[k] = .on ∧ requestsOn s.cfg.staged.streams[k] = false ∧ 0 < s.used k := by
  simp [busyOff, and_assoc]

/-- The first stream that fails a check (R186). -/
theorem find_of_lowest {p : StreamId → Bool} {k : StreamId} (hit : p k = true) (lowest : ∀ j, j < k → ¬ p j = true) :
    allStreams.find? p = some k := by
  refine List.find?_eq_some_iff_getElem.mpr ⟨hit, k.val, by simp [allStreams], by simp [allStreams], fun j below => ?_⟩
  have passes : ¬ p ⟨j, below.trans k.isLt⟩ = true := lowest ⟨j, below.trans k.isLt⟩ below
  simpa [allStreams] using passes

theorem find_of_none {p : StreamId → Bool} (passes : ∀ j, ¬ p j = true) : allStreams.find? p = none :=
  List.find?_eq_none.mpr fun j _ => passes j

theorem boundaryFailure_eq (s : State) : boundaryFailure s = ((allStreams.find? (tooMany s)).map .stream).or
    (((allStreams.find? (busyOff s)).map .stream).or
      (globalPlace (sharedInUse s.cfg.staged s.pool ≤ sharedSize s.cfg.staged))) := rfl

theorem boundaryFailure_none (passes : boundaryFailure s = none) : (∀ j, ¬ tooMany s j = true) ∧ ∀ j, ¬ busyOff s j = true := by
  simp only [boundaryFailure_eq, Option.or_eq_none_iff, Option.map_eq_none_iff, List.find?_eq_none] at passes
  obtain ⟨slots, states, _⟩ := passes
  exact ⟨fun j => slots j (List.mem_finRange j), fun j => states j (List.mem_finRange j)⟩

theorem boundaryFailure_tooMany {k : StreamId} (fails : tooMany s k = true) (lowest : ∀ j, j < k → ¬ tooMany s j = true) :
    boundaryFailure s = some (.stream k) := by
  rw [boundaryFailure_eq, find_of_lowest fails lowest]
  rfl

theorem boundaryFailure_busyOff {k : StreamId} (slots : ∀ j, ¬ tooMany s j = true) (fails : busyOff s k = true)
    (lowest : ∀ j, j < k → ¬ busyOff s j = true) : boundaryFailure s = some (.stream k) := by
  rw [boundaryFailure_eq, find_of_none slots, find_of_lowest fails lowest]
  rfl

/-- The reservations are checked last. -/
theorem boundaryFailure_overfull (slots : ∀ j, ¬ tooMany s j = true) (states : ∀ j, ¬ busyOff s j = true)
    (overfull : sharedSize s.cfg.staged < sharedInUse s.cfg.staged s.pool) : boundaryFailure s = some .global := by
  rw [boundaryFailure_eq, find_of_none slots, find_of_none states]
  simpa [globalPlace] using overfull

theorem boundaryFailure_fits (slots : ∀ j, ¬ tooMany s j = true) (states : ∀ j, ¬ busyOff s j = true)
    (fits : ¬ sharedSize s.cfg.staged < sharedInUse s.cfg.staged s.pool) : boundaryFailure s = none := by
  rw [boundaryFailure_eq, find_of_none slots, find_of_none states]
  simpa [globalPlace] using fits

/-! ### The event (R185) -/

theorem judgeCommit_early (early : s.pendingCode 0x01 = false ∨ s.now < s.cfg.slot.judgeAt) : judgeCommit s = s := by
  refine if_neg ?_
  rw [State.commitDue, Bool.and_eq_true, decide_eq_true_eq]
  rintro ⟨pending, due⟩
  rcases early with idle | later
  · exact Bool.false_ne_true (idle.symm.trans pending)
  · exact absurd due (Nat.not_le.mpr later)

theorem commitDue_iff : s.commitDue = true ↔ s.pendingCode 0x01 = true ∧ s.cfg.slot.judgeAt ≤ s.now := by
  rw [State.commitDue, Bool.and_eq_true, decide_eq_true_eq]

theorem judgeCommit_refused {d : Detail} (due : s.commitDue = true) (failure : boundaryFailure s = some d) :
    judgeCommit s = finishCommand .refused .occupied d s := by
  rw [judgeCommit, if_pos due, failure]

theorem judgeCommit_applied (due : s.commitDue = true) (passes : boundaryFailure s = none) : judgeCommit s = applyCommit s := by
  rw [judgeCommit, if_pos due, passes]

/-! ### The settings (R118, R119, R136, R163, R178, R187) -/

/-- The regime after a commit (R178). -/
theorem committed_regime (s : State) : (committed s).cfg.regime =
    if s.cfg.staged.global.regimeRequest = 1 then .regulate
    else if s.cfg.regime = .regulate then (if s.pool = [] then .pass else .draining)
    else s.cfg.regime := by
  obtain ⟨_, _, _, _, _, _, _, _, regime⟩ := committed_frame s
  rw [regime]
  by_cases asked : s.cfg.staged.global.regimeRequest = 1
  · simp [regimeAfter, requestsRegulate, asked]
  · have request : requestsRegulate s.cfg.staged.global = false := by simpa [requestsRegulate] using asked
    rw [request, if_neg asked]
    cases s.cfg.regime <;> simp [regimeAfter]

/-- What the settings of a commit change, the epoch aside. -/
theorem applySettings_changes (c : Settings) (after : Regime) (s : State) : applySettings c after s = { s with
    accounts := (applySettings c after s).accounts
    refillDue := (applySettings c after s).refillDue
    gov := (applySettings c after s).gov
    mon := { s.mon with watches := (applySettings c after s).mon.watches }
    alm := { s.alm with status := (applySettings c after s).alm.status }
    cfg := { s.cfg with
      active := c
      streamState := (applySettings c after s).cfg.streamState
      regime := after } } := by
  unfold applySettings
  rfl

/-- The epoch in progress takes the new length when its publication has been taken (R118, R119). -/
theorem commitEpoch_changes (s : State) : commitEpoch s = { s with
    mon := { s.mon with
      epochLen := if s.now < s.mon.epochEnd then s.settings.epochLength.toNat else s.mon.epochLen
      epochEnd := if s.now < s.mon.epochEnd then s.mon.epochStart + s.settings.epochLength.toNat * 10000
        else s.mon.epochEnd
      regulated := if s.now < s.mon.epochEnd then decide (s.cfg.regime = .regulate) else s.mon.regulated } } := by
  unfold commitEpoch
  by_cases early : s.now < s.mon.epochEnd
  · simp only [if_pos early]
    rfl
  · simp only [if_neg early]

/-- What the settings of a commit change, once the slot has its result. -/
theorem committed_changes (s : State) : committed s = { s with
    accounts := (committed s).accounts
    refillDue := (committed s).refillDue
    gov := (committed s).gov
    mon := { s.mon with
      watches := (committed s).mon.watches
      epochLen := if s.now < s.mon.epochEnd then s.cfg.staged.global.epochLength.toNat else s.mon.epochLen
      epochEnd := if s.now < s.mon.epochEnd then s.mon.epochStart + s.cfg.staged.global.epochLength.toNat * 10000
        else s.mon.epochEnd
      regulated := if s.now < s.mon.epochEnd then decide ((committed s).cfg.regime = .regulate) else s.mon.regulated }
    alm := { s.alm with status := (committed s).alm.status, globalStatus := s.alm.globalStatus ||| 0x40 }
    cfg := { s.cfg with
      active := s.cfg.staged
      streamState := (committed s).cfg.streamState
      regime := (committed s).cfg.regime
      slot := { s.cfg.slot with state := .done, result := .ok, detail := .none } } } := by
  unfold committed
  rw [commitEpoch_changes, applySettings_changes]
  rfl

/-- The watches of a stream after a commit (R136). -/
theorem committed_watch (s : State) (k : StreamId) : (committed s).mon.watches[k] =
    commitWatch s.cfg.active.streams[k] s.cfg.staged.streams[k] s.mon.watches[k] := by
  unfold committed
  rw [commitEpoch_changes]
  exact mapAll_get _ _ k

/-- The statuses of a stream after a commit (R136, R163). -/
theorem committed_status (s : State) (k : StreamId) : (committed s).alm.status[k] =
    commitStatus s.cfg.active.streams[k] s.cfg.staged.streams[k] (passWatch s.cfg.staged.streams[k] s.mon.watches[k]
      (commitWatch s.cfg.active.streams[k] s.cfg.staged.streams[k] s.mon.watches[k]) s.alm.status[k]) := by
  unfold committed
  rw [commitEpoch_changes]
  change (mapAll (mapAll _ _) _)[k] = _
  rw [mapAll_get, mapAll_get]
  rfl

theorem committed_streamState (s : State) (k : StreamId) : (committed s).cfg.streamState[k] =
    if requestsOn s.cfg.staged.streams[k] then .on else .off := by
  unfold committed
  rw [commitEpoch_changes]
  exact mapAll_get _ _ k

/-- A commit changes a setting of the watch that an item belongs to (R136). -/
def watchReset (old new : StreamRecord) : WatchItem → Prop
  | .high | .low => old.rateHigh ≠ new.rateHigh ∨ old.rateLow ≠ new.rateLow ∨ old.rateMode ≠ new.rateMode
  | .latency => old.latencyOver ≠ new.latencyOver ∨ old.latencyRelease ≠ new.latencyRelease ∨
      old.faultCount ≠ new.faultCount ∨ old.latencyMode ≠ new.latencyMode

theorem rateWatchChanged_iff (old new : StreamRecord) : rateWatchChanged old new = true ↔
    old.rateHigh ≠ new.rateHigh ∨ old.rateLow ≠ new.rateLow ∨ old.rateMode ≠ new.rateMode := by
  simp [rateWatchChanged, or_assoc]

theorem latencyWatchChanged_iff (old new : StreamRecord) : latencyWatchChanged old new = true ↔
    old.latencyOver ≠ new.latencyOver ∨ old.latencyRelease ≠ new.latencyRelease ∨ old.faultCount ≠ new.faultCount ∨
      old.latencyMode ≠ new.latencyMode := by
  simp [latencyWatchChanged, or_assoc]

variable {old new : StreamRecord} {w : Watch}

/-- The items of a watch that a commit clears, and those it leaves. -/
theorem tripped_commitWatch_reset {i : WatchItem} (reset : watchReset old new i) : i.tripped (commitWatch old new w) = false := by
  cases i with
  | high | low => simp [WatchItem.tripped, commitWatch, (rateWatchChanged_iff old new).mpr reset]
  | latency => simp [WatchItem.tripped, commitWatch, (latencyWatchChanged_iff old new).mpr reset]

theorem tripped_commitWatch_kept {i : WatchItem} (kept : ¬ watchReset old new i) :
    i.tripped (commitWatch old new w) = i.tripped w := by
  cases i with
  | high | low => simp [WatchItem.tripped, commitWatch, Bool.eq_false_iff.mpr (mt (rateWatchChanged_iff old new).mp kept)]
  | latency =>
    simp [WatchItem.tripped, commitWatch, Bool.eq_false_iff.mpr (mt (latencyWatchChanged_iff old new).mp kept)]

theorem fault_commitWatch_reset (reset : watchReset old new .latency) : (commitWatch old new w).fault = 0 :=
  if_pos ((latencyWatchChanged_iff old new).mpr reset)

theorem fault_commitWatch_kept (kept : ¬ watchReset old new .latency) : (commitWatch old new w).fault = w.fault :=
  if_neg (mt (latencyWatchChanged_iff old new).mp kept)

/-- The status of a cause that no watch reports stands. -/
theorem committed_status_event (s : State) (k : StreamId) {c : StreamCause} (event : ∀ i : WatchItem, i.cause ≠ c) :
    hasCause (committed s).alm.status[k] c = hasCause s.alm.status[k] c := by
  rw [committed_status, commitStatus, hasCause_and_not, hasCause_passWatch_event _ _ _ _ event, hasCause_watchBits]
  have high := event .high
  have low := event .low
  have latency := event .latency
  cases c <;> simp_all [WatchItem.cause]

/-- The status of an item's cause after a commit: cleared when the mode goes to LEVEL from another (R163), and else passed the
transition to CLEAR of an item that the commit resets (R136, R162). -/
theorem committed_status_item (s : State) (k : StreamId) (i : WatchItem) :
    let old := s.cfg.active.streams[k]
    let new := s.cfg.staged.streams[k]
    let mode := watchModeOf (i.code new)
    let tripped := i.tripped s.mon.watches[k]
    let after := hasCause (committed s).alm.status[k] i.cause
    (i.code old ≠ i.code new → mode = .level → after = false) ∧
    (¬ (i.code old ≠ i.code new ∧ mode = .level) → (tripped = false ∨ ¬ watchReset old new i) →
      after = hasCause s.alm.status[k] i.cause) ∧
    (tripped = true → watchReset old new i → after = match mode with
      | .level => false
      | .trip => hasCause s.alm.status[k] i.cause
      | .both => true) := by
  intro old new mode tripped after
  have passed : after = (hasCause (passChange mode tripped (i.tripped (commitWatch old new s.mon.watches[k])) i.cause
      s.alm.status[k]) i.cause && !decide (i.code old ≠ i.code new ∧ mode = .level)) := by
    rw [← hasCause_passWatch, ← LevelStatus.hasCause_commitStatus, ← committed_status]
  rw [hasCause_passChange] at passed
  refine ⟨fun changed level => ?_, fun other kept => ?_, fun wasTripped reset => ?_⟩
  · rw [passed, decide_eq_true ⟨changed, level⟩, Bool.not_true, Bool.and_false]
  · have same : tripped = i.tripped (commitWatch old new s.mon.watches[k]) := by
      by_cases reset : watchReset old new i
      · rw [tripped_commitWatch_reset reset]
        exact kept.resolve_right (not_not_intro reset)
      · exact (tripped_commitWatch_kept reset).symm
    rw [passed, if_pos (.inl same), decide_eq_false other, Bool.not_false, Bool.and_true]
  · rw [passed, tripped_commitWatch_reset reset, wasTripped, if_neg (by simp)]
    cases mode <;> simp

end

section
variable {s : State}

/-! ### The request in the entry stage (R13, R16, R17) -/

theorem committed_record (s : State) (k : StreamId) : (committed s).record k = s.cfg.staged.streams[k] := by
  obtain ⟨_, _, _, _, _, _, _, active, _⟩ := committed_frame s
  rw [State.record, active]

theorem committed_now (s : State) : (committed s).now = s.now := by rw [committed_changes]

theorem committed_stage (s : State) : (committed s).stage = s.stage := (committed_frame s).1

theorem committed_asked (asked : s.cfg.staged.global.regimeRequest = 1) : (committed s).cfg.regime = .regulate := by
  rw [committed_regime, if_pos asked]

section
variable (unasked : ¬ s.cfg.staged.global.regimeRequest = 1)
include unasked

/-- REGULATE without held transactions ends at once (R178). -/
theorem committed_emptied (regulate : s.cfg.regime = .regulate) (empty : s.pool = []) : (committed s).cfg.regime = .pass := by
  rw [committed_regime, if_neg unasked, if_pos regulate, if_pos empty]

/-- REGULATE with held transactions drains them (R178). -/
theorem committed_filled (regulate : s.cfg.regime = .regulate) (filled : s.pool ≠ []) :
    (committed s).cfg.regime = .draining := by
  rw [committed_regime, if_neg unasked, if_pos regulate, if_neg filled]

theorem committed_stays (other : s.cfg.regime ≠ .regulate) : (committed s).cfg.regime = s.cfg.regime := by
  rw [committed_regime, if_neg unasked, if_neg other]

end

/-- Without the request for REGULATE the regime is another one (R178). -/
theorem committed_unasked (unasked : ¬ s.cfg.staged.global.regimeRequest = 1) : (committed s).cfg.regime ≠ .regulate := by
  rw [committed_regime, if_neg unasked]
  split
  · split <;> simp
  · assumption

variable {req : Request} {reg : Bool} {k : StreamId} {start : Nat}

/-- A request in WAIT_SLOT that stays in REGULATE (R13). -/
theorem reexamine_slot (waits : s.stage = .waitSlot req reg k start) (regulate : s.cfg.regime = .regulate)
    (asked : s.cfg.staged.global.regimeRequest = 1) : reexamine s.cfg.regime (committed s) =
      if requestsOn s.cfg.staged.streams[k] = false then refuse req reg .window (some k) (committed s)
      else if (committed s).placementOk k then place req k (committed s)
      else if s.cfg.staged.streams[k].overflow = 1 then refuse req reg .full (some k) (committed s)
      else committed s := by
  have off : (committed s).cfg.streamState[k] = .off ↔ requestsOn s.cfg.staged.streams[k] = false := by
    rw [committed_streamState]
    cases requestsOn s.cfg.staged.streams[k] <;> simp
  unfold reexamine
  rw [committed_stage, waits, regulate, committed_asked asked]
  dsimp only
  simp only [off, committed_record, policyRefuse, beq_iff_eq]

/-- A request in WAIT_SLOT when the regime goes to DRAINING (R17). -/
theorem reexamine_slot_draining (waits : s.stage = .waitSlot req reg k start) (regulate : s.cfg.regime = .regulate)
    (draining : (committed s).cfg.regime = .draining) :
    reexamine s.cfg.regime (committed s) = { committed s with stage := .waitDrain req reg } := by
  unfold reexamine
  rw [committed_stage, waits, regulate, draining]

/-- A request in WAIT_SLOT when the regime goes to PASS (R16). -/
theorem reexamine_slot_pass (waits : s.stage = .waitSlot req reg k start) (regulate : s.cfg.regime = .regulate)
    (pass : (committed s).cfg.regime = .pass) : reexamine s.cfg.regime (committed s) = passPath req reg (committed s) := by
  unfold reexamine
  rw [committed_stage, waits, regulate, pass]

/-- The checks that a request meets when a commit goes to REGULATE (R7, R13). -/
def regulateChecks (req : Request) (reg : Bool) (s : State) : State :=
  let k := (classify s.cfg.staged req).1
  if (classify s.cfg.staged req).2 = false then refuse req reg .window (some k) (committed s)
  else if (committed s).placementOk k then place req k (committed s)
  else if s.cfg.staged.streams[k].overflow = 1 then refuse req reg .full (some k) (committed s)
  else { committed s with
    stage := .waitSlot req reg k s.now
    alm := { (committed s).alm with globalStatus := (committed s).alm.globalStatus ||| 0x10 } }

/-- No stream is RETIRING after a commit, so the check on it always passes. -/
theorem regulatedChecks_committed (req : Request) (reg : Bool) (s : State) :
    regulatedChecks req reg (committed s) = regulateChecks req reg s := by
  obtain ⟨_, _, _, _, _, _, _, active, _⟩ := committed_frame s
  have settled (k : StreamId) : (committed s).cfg.streamState[k] ≠ .retiring := by
    rw [committed_streamState]
    split <;> simp
  rw [EntryStage.regulatedChecks_eq]
  dsimp only
  rw [if_neg (settled _), committed_record, active, regulateChecks, ← committed_now s]
  rfl

theorem reexamine_issue (waits : s.stage = .waitIssue req reg) (pass : s.cfg.regime = .pass)
    (asked : s.cfg.staged.global.regimeRequest = 1) :
    reexamine s.cfg.regime (committed s) = regulateChecks req reg s := by
  rw [← regulatedChecks_committed]
  unfold reexamine
  rw [committed_stage, waits, pass, committed_asked asked]

theorem reexamine_drain (waits : s.stage = .waitDrain req reg) (draining : s.cfg.regime = .draining)
    (asked : s.cfg.staged.global.regimeRequest = 1) :
    reexamine s.cfg.regime (committed s) = regulateChecks req reg s := by
  rw [← regulatedChecks_committed]
  unfold reexamine
  rw [committed_stage, waits, draining, committed_asked asked]

/-- With no request that waits, nothing moves. -/
theorem reexamine_idle (idle : s.stage = .empty ∨ ∃ req reg k r, s.stage = .waitRefusal req reg k r) :
    reexamine s.cfg.regime (committed s) = committed s := by
  unfold reexamine
  rw [committed_stage]
  rcases idle with empty | ⟨req, reg, k, r, refused⟩
  · rw [empty]
  · rw [refused]

/-- A request in WAIT_ISSUE or WAIT_DRAIN waits on when the commit does not ask for REGULATE. -/
theorem reexamine_unasked (waits : s.stage = .waitIssue req reg ∨ s.stage = .waitDrain req reg)
    (unasked : ¬ s.cfg.staged.global.regimeRequest = 1) : reexamine s.cfg.regime (committed s) = committed s := by
  have other := committed_unasked unasked
  unfold reexamine
  rw [committed_stage]
  rcases waits with issue | drain
  · rw [issue]
    cases after : (committed s).cfg.regime with
    | regulate => exact absurd after other
    | pass | draining => cases s.cfg.regime <;> rfl
  · rw [drain]
    cases after : (committed s).cfg.regime with
    | regulate => exact absurd after other
    | pass | draining => cases s.cfg.regime <;> rfl

end

/-! ### The expiries of the changed limits (R72, R105) -/

section
variable {s : State}

/-- The configuration of an applied commit, through what follows its settings in the event. -/
theorem reexamined_config (s : State) : SameConfig (committed s) (reexamine s.cfg.regime (committed s)) :=
  reexamine_config _ _

theorem committed_idle (s : State) : (committed s).pendingCode 0x04 = false :=
  pendingCode_of_idle (by rw [committed_changes]; simp) _

/-- The held transactions whose waiting time reaches the hold limit that the commit changed (R72). -/
def lateHeld (s v : State) : List Held := v.pool.filter fun h => decide (h.state = .waiting ∧
  s.cfg.active.streams[h.stream].holdLimit ≠ s.cfg.staged.streams[h.stream].holdLimit ∧
    s.cfg.staged.streams[h.stream].holdLimit ≠ 0 ∧
      h.placedAt + s.cfg.staged.streams[h.stream].holdLimit.toNat * 100 ≤ s.now)

theorem commitHolds_eq {v : State} (active : v.cfg.active = s.cfg.staged) (now : v.now = s.now) :
    commitHolds s.cfg.active v = (lateHeld s v).foldl expireHeld v := by
  refine congrArg (fun l : List Held => l.foldl expireHeld v) (List.filter_congr fun h _ => ?_)
  have record : v.record h.stream = s.cfg.staged.streams[h.stream] := by rw [State.record, active]
  rw [Bool.eq_iff_iff, Bool.and_eq_true, HoldPool.holdDue_iff, record, now, bne_iff_ne, decide_eq_true_eq]
  exact and_left_comm

/-- The ACTIVE entries whose time since issue reaches the response timeout that the commit changed (R105). -/
def lateEntries (s w : State) : List EntryId :=
  if s.cfg.active.global.responseTimeout = s.cfg.staged.global.responseTimeout then []
  else allEntries.filter fun n => w.responseDue 0 n

theorem commitTimeouts_eq {w : State} (active : w.cfg.active = s.cfg.staged) :
    commitTimeouts s.cfg.active w = (lateEntries s w).foldl expireEntry w := by
  rw [commitTimeouts, lateEntries, State.settings, active]
  split <;> rfl

theorem lateEntries_ascending (s w : State) : (lateEntries s w).Pairwise (· < ·) := by
  unfold lateEntries
  split
  · exact .nil
  · exact (List.pairwise_lt_finRange 48).filter _

theorem mem_lateEntries {w : State} (active : w.cfg.active = s.cfg.staged) (now : w.now = s.now) (n : EntryId) :
    n ∈ lateEntries s w ↔ s.cfg.active.global.responseTimeout ≠ s.cfg.staged.global.responseTimeout ∧
      ∃ f, w.table[n] = .active f none ∧ f.issueTime + s.cfg.staged.global.responseTimeout.toNat * 100 ≤ s.now := by
  unfold lateEntries
  split
  · next same => simp [same]
  · next changed =>
    rw [List.mem_filter, InFlightTable.responseDue_iff, State.settings, active, now]
    simp [changed, allEntries]

/-! ### The regime to the end of the event (R82) -/

/-- The regime stays, or DRAINING has ended. -/
def RegimeEnds (s t : State) : Prop := t.cfg.regime = s.cfg.regime ∨ (s.cfg.regime = .draining ∧ t.cfg.regime = .pass)

theorem RegimeEnds.refl (s : State) : RegimeEnds s s := .inl rfl

theorem RegimeEnds.trans {s t u : State} (first : RegimeEnds s t) (second : RegimeEnds t u) : RegimeEnds s u := by
  rcases first with same | ⟨draining, pass⟩
  · rwa [RegimeEnds, same] at second
  · refine .inr ⟨draining, second.elim (·.trans pass) fun ⟨draining, _⟩ => ?_⟩
    rw [pass] at draining
    cases draining

theorem RegimeEnds.of_eq {s t : State} (same : t.cfg.regime = s.cfg.regime) : RegimeEnds s t := .inl same

theorem RegimeEnds.foldl {α : Type} {f : State → α → State} (each : ∀ s a, RegimeEnds s (f s a)) :
    ∀ (l : List α) (s : State), RegimeEnds s (l.foldl f s)
  | [], s => .refl s
  | a :: l, s => (each s a).trans (foldl each l (f s a))

theorem checkPoolEmpty_regimeEnds (s : State) : RegimeEnds s (checkPoolEmpty s) := by
  rcases checkPoolEmpty_cases s with same | ⟨draining, _, ended | ⟨req, reg, _, ended⟩⟩
  · rw [same]
    exact .refl s
  · exact .inr ⟨draining, by rw [ended]⟩
  · exact .inr ⟨draining, by rw [ended]; simp⟩

theorem acceptOffer_regimeEnds (o : Offer) (s : State) : RegimeEnds s (acceptOffer o s) := by
  obtain ⟨_ | p | n, e⟩ := o
  · exact .of_eq rfl
  · have ends := checkPoolEmpty_regimeEnds (retestSlot (setPool (dropExpired p s.pool) { s with localList := s.localList ++ [e] }))
    simpa [RegimeEnds, acceptOffer_held, acceptStale] using ends
  · exact .of_eq (by simp [acceptOffer_inflight])

theorem makeOffer_regimeEnds (o : Offer) (s : State) : RegimeEnds s (makeOffer o s) := by
  unfold makeOffer
  split
  · exact acceptOffer_regimeEnds o s
  · exact .of_eq rfl

theorem expireHeld_regimeEnds (s : State) (h : Held) : RegimeEnds s (expireHeld s h) :=
  (RegimeEnds.of_eq (by simp)).trans (makeOffer_regimeEnds _ _)

theorem expireEntry_regimeEnds (s : State) (n : EntryId) : RegimeEnds s (expireEntry s n) := by
  unfold expireEntry
  split
  · exact makeOffer_regimeEnds _ { s with table := _ }
  all_goals exact .refl s

/-- What follows the settings in the event leaves the rest of the configuration unit alone until an offer is accepted. -/
theorem reexamine_cfg (before : Regime) (s : State) : (reexamine before s).cfg = s.cfg := by
  have checked (req : Request) (reg : Bool) : (regulatedChecks req reg s).cfg = s.cfg := by
    rcases regulatedChecks_cases req reg s with h | h | ⟨_, h⟩ | h | ⟨_, h⟩ <;> rw [h] <;> simp [refuse_keeps]
  unfold reexamine
  split
  · repeat' split
    all_goals simp [refuse_keeps]
  · rfl
  · simp
  · exact checked _ _
  · exact checked _ _
  · rfl

theorem commitTimeouts_regimeEnds (old : Settings) (s : State) : RegimeEnds s (commitTimeouts old s) := by
  unfold commitTimeouts
  split
  · exact .refl s
  · exact .foldl expireEntry_regimeEnds _ s

theorem applied_regimeEnds (s : State) : RegimeEnds (committed s) (applyCommit s) := by
  rw [applyCommit_eq]
  exact ((RegimeEnds.of_eq (by rw [reexamine_cfg])).trans (.foldl expireHeld_regimeEnds _ _)).trans
    (commitTimeouts_regimeEnds _ _)

/-- A regime other than DRAINING stands to the end of the event. -/
theorem applied_regime {r : Regime} (settled : (committed s).cfg.regime = r) (other : r ≠ .draining) :
    (applyCommit s).cfg.regime = r :=
  ((applied_regimeEnds s).resolve_right fun ⟨draining, _⟩ => other (settled.symm.trans draining)).trans settled

/-- DRAINING stands to the end of the event, or ends with an empty pool (R82). -/
theorem applied_draining (sound : s.RegimeSound) (due : s.commitDue = true) (passes : boundaryFailure s = none)
    (draining : (committed s).cfg.regime = .draining) :
    (applyCommit s).cfg.regime = .draining ∨ ((applyCommit s).cfg.regime = .pass ∧ (applyCommit s).pool = []) := by
  obtain ⟨fit, _⟩ := (TrafficMoves.regimeSound_iff s).mp sound
  have kept := (TrafficMoves.judgeCommit_kept s).moves.keeps TrafficMoves.Move.regimeFit fit
  rw [judgeCommit_applied due passes] at kept
  rcases applied_regimeEnds s with same | ⟨_, pass⟩
  · exact .inl (same.trans draining)
  · exact .inr ⟨pass, kept.1 pass⟩

/-- The configuration of an applied commit (R187). -/
theorem applied_config (s : State) : (applyCommit s).cfg.active = s.cfg.staged ∧ (applyCommit s).cfg.staged = s.cfg.staged ∧
    (applyCommit s).cfg.streamState = (committed s).cfg.streamState ∧
    (applyCommit s).cfg.slot = { s.cfg.slot with state := .done, result := .ok, detail := .none } := by
  have same : SameConfig (committed s) (applyCommit s) := by
    rw [applyCommit_eq]
    exact ((reexamine_config _ _).trans (commitHolds_config _ _)).trans (commitTimeouts_config _ _)
  obtain ⟨staged, active, streams, slot⟩ := same (committed_idle s)
  rw [staged, active, streams, slot, committed_changes]
  exact ⟨rfl, rfl, rfl, rfl⟩

theorem applied_reqArgs (s : State) : (applyCommit s).cfg.reqArgs = s.cfg.reqArgs := by
  have timeouts (t : State) : (commitTimeouts s.cfg.active t).cfg.reqArgs = t.cfg.reqArgs := by
    unfold commitTimeouts
    split
    · rfl
    · exact foldl_keeps (fun t => t.cfg.reqArgs) (by simp) _ t
  have holds (t : State) : (commitHolds s.cfg.active t).cfg.reqArgs = t.cfg.reqArgs :=
    foldl_keeps (fun t => t.cfg.reqArgs) (by simp) _ t
  rw [applyCommit_eq, timeouts, holds, reexamine_cfg, committed_changes]

end

/-! ### The statement -/

section
variable {s : State}

/-- The request in the entry stage goes to the PASS path (R15, R16). -/
theorem reexamine_slot_issues {req : Request} {reg : Bool} {k : StreamId} {start : Nat}
    (waits : s.stage = .waitSlot req reg k start) (regulate : s.cfg.regime = .regulate)
    (pass : (committed s).cfg.regime = .pass) :
    (s.CanIssue → ∀ n, s.LowestFree n →
      reexamine s.cfg.regime (committed s) = sendDown n req none { committed s with stage := .empty }) ∧
    (¬ (s.CanIssue ∧ ∃ n : EntryId, s.table[n] = .free) →
      reexamine s.cfg.regime (committed s) = { committed s with stage := .waitIssue req reg }) := by
  have pins : (committed s).pins = s.pins := by rw [committed_changes]
  obtain ⟨_, _, _, _, _, table, _⟩ := committed_frame s
  rw [reexamine_slot_pass waits regulate pass]
  refine ⟨fun can n lowest => passPath_issues ?_ ?_, fun blocked => passPath_waits ?_⟩
  · rwa [State.CanIssue, pins]
  · rwa [State.LowestFree, table]
  · rwa [State.CanIssue, pins, table]

/-- The state after the held transactions that the commit expires. -/
def held (s : State) : State :=
  (lateHeld s (reexamine s.cfg.regime (committed s))).foldl expireHeld (reexamine s.cfg.regime (committed s))

theorem commitHolds_committed (s : State) :
    commitHolds s.cfg.active (reexamine s.cfg.regime (committed s)) = held s :=
  commitHolds_eq (by rw [reexamine_cfg, committed_changes]) (by rw [reexamine_now, committed_now])

theorem held_active (s : State) : (held s).cfg.active = s.cfg.staged := by
  have same := (reexamine_config s.cfg.regime (committed s)).trans (commitHolds_config s.cfg.active _)
  obtain ⟨_, active, _⟩ := same (committed_idle s)
  rw [← commitHolds_committed, active, committed_changes]

theorem held_now (s : State) : (held s).now = s.now := by
  rw [held, foldl_now (by simp), reexamine_now, committed_now]

/-- The parts of an applied commit, in the order of the event. -/
theorem applyCommit_parts (s : State) : applyCommit s = (lateEntries s (held s)).foldl expireEntry (held s) := by
  rw [applyCommit_eq, commitHolds_committed, commitTimeouts_eq (held_active s)]

end

/-- Settles O34: the boundary checks in their order, and the parts of an applied commit. -/
theorem commitEventOutcome : Obligations.CommitEventOutcome := by
  refine ⟨fun s running early => next_event_of_eq running (judgeCommit_early early), fun s running pending boundary => ?judged,
    fun s running pending boundary passes => ?applied⟩
  case judged =>
    have due : s.commitDue = true := commitDue_iff.mpr ⟨pending, boundary⟩
    intro c many off overfull refused
    have slotsFail (j : StreamId) : tooMany s j = true ↔ many j := tooMany_iff j
    have stateFails (j : StreamId) : busyOff s j = true ↔ off j := busyOff_iff j
    have answers {d : Detail} (failure : boundaryFailure s = some d) :
        exec .commitEvent s = .next (finish s (refused d)) := next_event_of_eq running (judgeCommit_refused due failure)
    simp only [← slotsFail, ← stateFails]
    refine ⟨boundaryFailure_none, fun k fails lowest => answers (boundaryFailure_tooMany fails lowest), fun slots =>
      ⟨fun k fails lowest => answers (boundaryFailure_busyOff slots fails lowest), fun states =>
        ⟨fun full => answers (boundaryFailure_overfull slots states full), ⟨fun passes full => ?_,
          boundaryFailure_fits slots states⟩, fun room => ?_⟩⟩⟩
    · rw [boundaryFailure_overfull slots states full] at passes
      cases passes
    · have passes := boundaryFailure_fits slots states room
      obtain ⟨active, staged, streams, slot⟩ := applied_config s
      refine ⟨_, next_event_of_eq running (judgeCommit_applied due passes), ?_⟩
      have cfg : (finish s (applyCommit s)).cfg = (applyCommit s).cfg := by simp
      have pool : (finish s (applyCommit s)).pool = (applyCommit s).pool := by simp
      rw [cfg, pool]
      refine ⟨active, staged, applied_reqArgs s, slot, fun k => ?_,
        fun asked => applied_regime (committed_asked asked) (by decide),
        fun unasked pass => applied_regime ((committed_stays unasked (by simp [pass])).trans pass) (by decide),
        fun unasked regulate empty => applied_regime (committed_emptied unasked regulate empty) (by decide),
        fun unasked sound regulate filled => applied_draining sound due passes (committed_filled unasked regulate filled),
        fun unasked sound draining =>
          applied_draining sound due passes ((committed_stays unasked (by simp [draining])).trans draining)⟩
      rw [streams]
      exact committed_streamState s k
  case applied =>
    have due : s.commitDue = true := commitDue_iff.mpr ⟨pending, boundary⟩
    intro c old asked after
    have regime : (committed s).cfg.regime = after := committed_regime s
    refine ⟨committed s, reexamine s.cfg.regime (committed s), held s, lateHeld s _, lateEntries s (held s), ?_, ?_,
      fun k => ?_, ⟨fun req reg k start waits => ?_, fun req reg waits => ?_, fun req reg waits => ?_, reexamine_idle⟩, rfl, rfl,
      lateEntries_ascending _ _, mem_lateEntries (held_active s) (held_now s)⟩
    · exact next_event_of_eq running ((judgeCommit_applied due passes).trans (applyCommit_parts s))
    · rw [← regime]
      exact committed_changes s
    · intro o r rateReset latencyReset before status
      have watch := committed_watch s k
      refine ⟨committed_streamState s k, fun reset => ?_, fun kept => ?_, fun reset => ?_, fun kept => ?_,
        committed_status_item s k .high, committed_status_item s k .low, committed_status_item s k .latency,
        fun cause event => committed_status_event s k ?_⟩
      · rw [watch]
        exact ⟨tripped_commitWatch_reset (i := .high) reset, tripped_commitWatch_reset (i := .low) reset⟩
      · rw [watch]
        exact ⟨tripped_commitWatch_kept (i := .high) kept, tripped_commitWatch_kept (i := .low) kept⟩
      · rw [watch]
        exact ⟨tripped_commitWatch_reset (i := .latency) reset, fault_commitWatch_reset reset⟩
      · rw [watch]
        exact ⟨tripped_commitWatch_kept (i := .latency) kept, fault_commitWatch_kept kept⟩
      · rcases event with rfl | rfl | rfl <;> exact fun i => by cases i <;> exact StreamCause.noConfusion
    · exact ⟨reexamine_slot waits, fun regulate unasked filled =>
          reexamine_slot_draining waits regulate (committed_filled unasked regulate filled),
        fun regulate unasked empty => reexamine_slot_issues waits regulate (committed_emptied unasked regulate empty)⟩
    · exact ⟨reexamine_issue waits, reexamine_unasked (.inl waits)⟩
    · exact ⟨reexamine_drain waits, reexamine_unasked (.inr waits)⟩

end Sys2Proof.Machine.CommitEvent
